-- ==== Sys2Proof/Word.lean ====
section
/-! DEFINITION. The word types of the block (00_scope.md R7: 8-bit data, 16-bit addresses). -/

namespace Sys2Proof

/-- An 8-bit register, memory byte or immediate (R7). -/
abbrev Byte := BitVec 8

/-- A 16-bit register pair, PC, SP or address (R7). -/
abbrev Word := BitVec 16

end Sys2Proof
end

