-- ==== Sys2Proof/Machine/Bits.lean ====
section
/-! DEFINITION. Byte order, sign extension and single bits (00_scope.md R10, 20_memory.md R72). -/

namespace Sys2Proof

/-- `v[7:0]` of a 16-bit value (R10). -/
def loByte (v : Word) : Byte := v.extractLsb' 0 8

/-- `v[15:8]` of a 16-bit value (R10). -/
def hiByte (v : Word) : Byte := v.extractLsb' 8 8

/-- `(hi << 8) | lo` (R10, R21). -/
def wordOf (hi lo : Byte) : Word := hi ++ lo

/-- `sext_16(e)` (R10). -/
def sext16 (e : Byte) : Word := e.signExtend 16

/-- `bool(x)` as a number (R10). -/
def bitNat (b : Bool) : Nat := if b then 1 else 0

/-- The address `0xFF00 + n` of the high-page forms (30_encoding.md R128). -/
def highPage (n : Byte) : Word := wordOf 0xFF n

end Sys2Proof
end

