-- ==== Sys2Proof/Syntax.lean ====
section
/-! DEFINITION. The instruction set as syntax: one constructor per row of spec/opcode_table.json (30_encoding.md R122, R131,
R134), its immediate operands its fields (R128). In a name, `m` reads "the byte at": `ld_A_mHLinc` is LD A,(HL+). Beside it,
the operand and operation codes of R123 to R127, which decoding and the meanings share. -/

namespace Sys2Proof

/-- 8-bit operand codes 0 to 7 (R124); `mHL` is code 6, the byte at address HL. -/
inductive R8
  | B
  | C
  | D
  | E
  | H
  | L
  | mHL
  | A
deriving DecidableEq, Repr

/-- 16-bit pair codes of LD, INC, DEC and ADD HL (R125). -/
inductive R16
  | BC
  | DE
  | HL
  | SP
deriving DecidableEq, Repr

/-- 16-bit pair codes of PUSH and POP (R126). -/
inductive R16Stk
  | BC
  | DE
  | HL
  | AF
deriving DecidableEq, Repr

/-- Condition codes (R127). -/
inductive Cond
  | NZ
  | Z
  | NC
  | C
deriving DecidableEq, Repr

/-- ALU operation codes 0 to 7 (R130). -/
inductive AluOp
  | add
  | adc
  | sub
  | sbc
  | and
  | xor
  | or
  | cp
deriving DecidableEq, Repr

/-- CB rotate and shift operation codes 0 to 7 (R134). -/
inductive ShiftOp
  | rlc
  | rrc
  | rl
  | rr
  | sla
  | sra
  | swap
  | srl
deriving DecidableEq, Repr

/-- A 3-bit field: a bit index or an RST target index (R123). -/
inductive Idx8
  | i0
  | i1
  | i2
  | i3
  | i4
  | i5
  | i6
  | i7
deriving DecidableEq, Repr

/-- The instructions: one constructor per row of the opcode table; the rows with an immediate operand stand first (the
Lean runtime bounds the tags of constructors with fields), the others follow in the table's order. -/
inductive Instr
  /-- LD BC,u16 (R179) -/
  | ld_BC_u16 (nn : Word)
  /-- LD B,u8 (R163) -/
  | ld_B_u8 (n : Byte)
  /-- LD (u16),SP (R180) -/
  | ld_mU16_SP (nn : Word)
  /-- LD C,u8 (R163) -/
  | ld_C_u8 (n : Byte)
  /-- STOP (R331) -/
  | stop (n : Byte)
  /-- LD DE,u16 (R179) -/
  | ld_DE_u16 (nn : Word)
  /-- LD D,u8 (R163) -/
  | ld_D_u8 (n : Byte)
  /-- JR i8 (R303) -/
  | jr_i8 (e : Byte)
  /-- LD E,u8 (R163) -/
  | ld_E_u8 (n : Byte)
  /-- JR NZ,i8 (R304) -/
  | jr_NZ_i8 (e : Byte)
  /-- LD HL,u16 (R179) -/
  | ld_HL_u16 (nn : Word)
  /-- LD H,u8 (R163) -/
  | ld_H_u8 (n : Byte)
  /-- JR Z,i8 (R304) -/
  | jr_Z_i8 (e : Byte)
  /-- LD L,u8 (R163) -/
  | ld_L_u8 (n : Byte)
  /-- JR NC,i8 (R304) -/
  | jr_NC_i8 (e : Byte)
  /-- LD SP,u16 (R179) -/
  | ld_SP_u16 (nn : Word)
  /-- LD (HL),u8 (R164) -/
  | ld_mHL_u8 (n : Byte)
  /-- JR C,i8 (R304) -/
  | jr_C_i8 (e : Byte)
  /-- LD A,u8 (R163) -/
  | ld_A_u8 (n : Byte)
  /-- JP NZ,u16 (R301) -/
  | jp_NZ_u16 (nn : Word)
  /-- JP u16 (R300) -/
  | jp_u16 (nn : Word)
  /-- CALL NZ,u16 (R306) -/
  | call_NZ_u16 (nn : Word)
  /-- ADD A,u8 (R202) -/
  | add_A_u8 (n : Byte)
  /-- JP Z,u16 (R301) -/
  | jp_Z_u16 (nn : Word)
  /-- CALL Z,u16 (R306) -/
  | call_Z_u16 (nn : Word)
  /-- CALL u16 (R305) -/
  | call_u16 (nn : Word)
  /-- ADC A,u8 (R204) -/
  | adc_A_u8 (n : Byte)
  /-- JP NC,u16 (R301) -/
  | jp_NC_u16 (nn : Word)
  /-- CALL NC,u16 (R306) -/
  | call_NC_u16 (nn : Word)
  /-- SUB u8 (R206) -/
  | sub_u8 (n : Byte)
  /-- JP C,u16 (R301) -/
  | jp_C_u16 (nn : Word)
  /-- CALL C,u16 (R306) -/
  | call_C_u16 (nn : Word)
  /-- SBC A,u8 (R208) -/
  | sbc_A_u8 (n : Byte)
  /-- LDH (u8),A (R172) -/
  | ldh_mU8_A (n : Byte)
  /-- AND u8 (R210) -/
  | and_u8 (n : Byte)
  /-- ADD SP,i8 (R243) -/
  | add_SP_i8 (e : Byte)
  /-- LD (u16),A (R170) -/
  | ld_mU16_A (nn : Word)
  /-- XOR u8 (R212) -/
  | xor_u8 (n : Byte)
  /-- LDH A,(u8) (R171) -/
  | ldh_A_mU8 (n : Byte)
  /-- OR u8 (R214) -/
  | or_u8 (n : Byte)
  /-- LD HL,SP+i8 (R244) -/
  | ld_HL_SPi8 (e : Byte)
  /-- LD A,(u16) (R169) -/
  | ld_A_mU16 (nn : Word)
  /-- CP u8 (R216) -/
  | cp_u8 (n : Byte)
  /-- NOP (R330) -/
  | nop
  /-- LD (BC),A (R167) -/
  | ld_mBC_A
  /-- INC BC (R241) -/
  | inc_BC
  /-- INC B (R217) -/
  | inc_B
  /-- DEC B (R219) -/
  | dec_B
  /-- RLCA (R260) -/
  | rlca
  /-- ADD HL,BC (R240) -/
  | add_HL_BC
  /-- LD A,(BC) (R165) -/
  | ld_A_mBC
  /-- DEC BC (R242) -/
  | dec_BC
  /-- INC C (R217) -/
  | inc_C
  /-- DEC C (R219) -/
  | dec_C
  /-- RRCA (R261) -/
  | rrca
  /-- LD (DE),A (R168) -/
  | ld_mDE_A
  /-- INC DE (R241) -/
  | inc_DE
  /-- INC D (R217) -/
  | inc_D
  /-- DEC D (R219) -/
  | dec_D
  /-- RLA (R262) -/
  | rla
  /-- ADD HL,DE (R240) -/
  | add_HL_DE
  /-- LD A,(DE) (R166) -/
  | ld_A_mDE
  /-- DEC DE (R242) -/
  | dec_DE
  /-- INC E (R217) -/
  | inc_E
  /-- DEC E (R219) -/
  | dec_E
  /-- RRA (R263) -/
  | rra
  /-- LD (HL+),A (R175) -/
  | ld_mHLinc_A
  /-- INC HL (R241) -/
  | inc_HL
  /-- INC H (R217) -/
  | inc_H
  /-- DEC H (R219) -/
  | dec_H
  /-- DAA (R221) -/
  | daa
  /-- ADD HL,HL (R240) -/
  | add_HL_HL
  /-- LD A,(HL+) (R176) -/
  | ld_A_mHLinc
  /-- DEC HL (R242) -/
  | dec_HL
  /-- INC L (R217) -/
  | inc_L
  /-- DEC L (R219) -/
  | dec_L
  /-- CPL (R222) -/
  | cpl
  /-- LD (HL-),A (R177) -/
  | ld_mHLdec_A
  /-- INC SP (R241) -/
  | inc_SP
  /-- INC (HL) (R218) -/
  | inc_mHL
  /-- DEC (HL) (R220) -/
  | dec_mHL
  /-- SCF (R223) -/
  | scf
  /-- ADD HL,SP (R240) -/
  | add_HL_SP
  /-- LD A,(HL-) (R178) -/
  | ld_A_mHLdec
  /-- DEC SP (R242) -/
  | dec_SP
  /-- INC A (R217) -/
  | inc_A
  /-- DEC A (R219) -/
  | dec_A
  /-- CCF (R224) -/
  | ccf
  /-- LD B,B (R160) -/
  | ld_B_B
  /-- LD B,C (R160) -/
  | ld_B_C
  /-- LD B,D (R160) -/
  | ld_B_D
  /-- LD B,E (R160) -/
  | ld_B_E
  /-- LD B,H (R160) -/
  | ld_B_H
  /-- LD B,L (R160) -/
  | ld_B_L
  /-- LD B,(HL) (R161) -/
  | ld_B_mHL
  /-- LD B,A (R160) -/
  | ld_B_A
  /-- LD C,B (R160) -/
  | ld_C_B
  /-- LD C,C (R160) -/
  | ld_C_C
  /-- LD C,D (R160) -/
  | ld_C_D
  /-- LD C,E (R160) -/
  | ld_C_E
  /-- LD C,H (R160) -/
  | ld_C_H
  /-- LD C,L (R160) -/
  | ld_C_L
  /-- LD C,(HL) (R161) -/
  | ld_C_mHL
  /-- LD C,A (R160) -/
  | ld_C_A
  /-- LD D,B (R160) -/
  | ld_D_B
  /-- LD D,C (R160) -/
  | ld_D_C
  /-- LD D,D (R160) -/
  | ld_D_D
  /-- LD D,E (R160) -/
  | ld_D_E
  /-- LD D,H (R160) -/
  | ld_D_H
  /-- LD D,L (R160) -/
  | ld_D_L
  /-- LD D,(HL) (R161) -/
  | ld_D_mHL
  /-- LD D,A (R160) -/
  | ld_D_A
  /-- LD E,B (R160) -/
  | ld_E_B
  /-- LD E,C (R160) -/
  | ld_E_C
  /-- LD E,D (R160) -/
  | ld_E_D
  /-- LD E,E (R160) -/
  | ld_E_E
  /-- LD E,H (R160) -/
  | ld_E_H
  /-- LD E,L (R160) -/
  | ld_E_L
  /-- LD E,(HL) (R161) -/
  | ld_E_mHL
  /-- LD E,A (R160) -/
  | ld_E_A
  /-- LD H,B (R160) -/
  | ld_H_B
  /-- LD H,C (R160) -/
  | ld_H_C
  /-- LD H,D (R160) -/
  | ld_H_D
  /-- LD H,E (R160) -/
  | ld_H_E
  /-- LD H,H (R160) -/
  | ld_H_H
  /-- LD H,L (R160) -/
  | ld_H_L
  /-- LD H,(HL) (R161) -/
  | ld_H_mHL
  /-- LD H,A (R160) -/
  | ld_H_A
  /-- LD L,B (R160) -/
  | ld_L_B
  /-- LD L,C (R160) -/
  | ld_L_C
  /-- LD L,D (R160) -/
  | ld_L_D
  /-- LD L,E (R160) -/
  | ld_L_E
  /-- LD L,H (R160) -/
  | ld_L_H
  /-- LD L,L (R160) -/
  | ld_L_L
  /-- LD L,(HL) (R161) -/
  | ld_L_mHL
  /-- LD L,A (R160) -/
  | ld_L_A
  /-- LD (HL),B (R162) -/
  | ld_mHL_B
  /-- LD (HL),C (R162) -/
  | ld_mHL_C
  /-- LD (HL),D (R162) -/
  | ld_mHL_D
  /-- LD (HL),E (R162) -/
  | ld_mHL_E
  /-- LD (HL),H (R162) -/
  | ld_mHL_H
  /-- LD (HL),L (R162) -/
  | ld_mHL_L
  /-- HALT (R332) -/
  | halt
  /-- LD (HL),A (R162) -/
  | ld_mHL_A
  /-- LD A,B (R160) -/
  | ld_A_B
  /-- LD A,C (R160) -/
  | ld_A_C
  /-- LD A,D (R160) -/
  | ld_A_D
  /-- LD A,E (R160) -/
  | ld_A_E
  /-- LD A,H (R160) -/
  | ld_A_H
  /-- LD A,L (R160) -/
  | ld_A_L
  /-- LD A,(HL) (R161) -/
  | ld_A_mHL
  /-- LD A,A (R160) -/
  | ld_A_A
  /-- ADD A,B (R201) -/
  | add_A_B
  /-- ADD A,C (R201) -/
  | add_A_C
  /-- ADD A,D (R201) -/
  | add_A_D
  /-- ADD A,E (R201) -/
  | add_A_E
  /-- ADD A,H (R201) -/
  | add_A_H
  /-- ADD A,L (R201) -/
  | add_A_L
  /-- ADD A,(HL) (R201) -/
  | add_A_mHL
  /-- ADD A,A (R201) -/
  | add_A_A
  /-- ADC A,B (R203) -/
  | adc_A_B
  /-- ADC A,C (R203) -/
  | adc_A_C
  /-- ADC A,D (R203) -/
  | adc_A_D
  /-- ADC A,E (R203) -/
  | adc_A_E
  /-- ADC A,H (R203) -/
  | adc_A_H
  /-- ADC A,L (R203) -/
  | adc_A_L
  /-- ADC A,(HL) (R203) -/
  | adc_A_mHL
  /-- ADC A,A (R203) -/
  | adc_A_A
  /-- SUB B (R205) -/
  | sub_B
  /-- SUB C (R205) -/
  | sub_C
  /-- SUB D (R205) -/
  | sub_D
  /-- SUB E (R205) -/
  | sub_E
  /-- SUB H (R205) -/
  | sub_H
  /-- SUB L (R205) -/
  | sub_L
  /-- SUB (HL) (R205) -/
  | sub_mHL
  /-- SUB A (R205) -/
  | sub_A
  /-- SBC A,B (R207) -/
  | sbc_A_B
  /-- SBC A,C (R207) -/
  | sbc_A_C
  /-- SBC A,D (R207) -/
  | sbc_A_D
  /-- SBC A,E (R207) -/
  | sbc_A_E
  /-- SBC A,H (R207) -/
  | sbc_A_H
  /-- SBC A,L (R207) -/
  | sbc_A_L
  /-- SBC A,(HL) (R207) -/
  | sbc_A_mHL
  /-- SBC A,A (R207) -/
  | sbc_A_A
  /-- AND B (R209) -/
  | and_B
  /-- AND C (R209) -/
  | and_C
  /-- AND D (R209) -/
  | and_D
  /-- AND E (R209) -/
  | and_E
  /-- AND H (R209) -/
  | and_H
  /-- AND L (R209) -/
  | and_L
  /-- AND (HL) (R209) -/
  | and_mHL
  /-- AND A (R209) -/
  | and_A
  /-- XOR B (R211) -/
  | xor_B
  /-- XOR C (R211) -/
  | xor_C
  /-- XOR D (R211) -/
  | xor_D
  /-- XOR E (R211) -/
  | xor_E
  /-- XOR H (R211) -/
  | xor_H
  /-- XOR L (R211) -/
  | xor_L
  /-- XOR (HL) (R211) -/
  | xor_mHL
  /-- XOR A (R211) -/
  | xor_A
  /-- OR B (R213) -/
  | or_B
  /-- OR C (R213) -/
  | or_C
  /-- OR D (R213) -/
  | or_D
  /-- OR E (R213) -/
  | or_E
  /-- OR H (R213) -/
  | or_H
  /-- OR L (R213) -/
  | or_L
  /-- OR (HL) (R213) -/
  | or_mHL
  /-- OR A (R213) -/
  | or_A
  /-- CP B (R215) -/
  | cp_B
  /-- CP C (R215) -/
  | cp_C
  /-- CP D (R215) -/
  | cp_D
  /-- CP E (R215) -/
  | cp_E
  /-- CP H (R215) -/
  | cp_H
  /-- CP L (R215) -/
  | cp_L
  /-- CP (HL) (R215) -/
  | cp_mHL
  /-- CP A (R215) -/
  | cp_A
  /-- RET NZ (R308) -/
  | ret_NZ
  /-- POP BC (R182) -/
  | pop_BC
  /-- PUSH BC (R181) -/
  | push_BC
  /-- RST 0x00 (R310) -/
  | rst_00
  /-- RET Z (R308) -/
  | ret_Z
  /-- RET (R307) -/
  | ret
  /-- PREFIX CB (R339) -/
  | prefix_CB
  /-- RST 0x08 (R310) -/
  | rst_08
  /-- RET NC (R308) -/
  | ret_NC
  /-- POP DE (R182) -/
  | pop_DE
  /-- ILLEGAL_D3 (no-op) (R338) -/
  | unused_D3
  /-- PUSH DE (R181) -/
  | push_DE
  /-- RST 0x10 (R310) -/
  | rst_10
  /-- RET C (R308) -/
  | ret_C
  /-- RETI (R309) -/
  | reti
  /-- ILLEGAL_DB (no-op) (R338) -/
  | unused_DB
  /-- ILLEGAL_DD (no-op) (R338) -/
  | unused_DD
  /-- RST 0x18 (R310) -/
  | rst_18
  /-- POP HL (R182) -/
  | pop_HL
  /-- LD (C),A (R174) -/
  | ld_mC_A
  /-- ILLEGAL_E3 (no-op) (R338) -/
  | unused_E3
  /-- ILLEGAL_E4 (no-op) (R338) -/
  | unused_E4
  /-- PUSH HL (R181) -/
  | push_HL
  /-- RST 0x20 (R310) -/
  | rst_20
  /-- JP HL (R302) -/
  | jp_HL
  /-- ILLEGAL_EB (no-op) (R338) -/
  | unused_EB
  /-- ILLEGAL_EC (no-op) (R338) -/
  | unused_EC
  /-- ILLEGAL_ED (no-op) (R338) -/
  | unused_ED
  /-- RST 0x28 (R310) -/
  | rst_28
  /-- POP AF (R182) -/
  | pop_AF
  /-- LD A,(C) (R173) -/
  | ld_A_mC
  /-- DI (R336) -/
  | di
  /-- ILLEGAL_F4 (no-op) (R338) -/
  | unused_F4
  /-- PUSH AF (R181) -/
  | push_AF
  /-- RST 0x30 (R310) -/
  | rst_30
  /-- LD SP,HL (R183) -/
  | ld_SP_HL
  /-- EI (R337) -/
  | ei
  /-- ILLEGAL_FC (no-op) (R338) -/
  | unused_FC
  /-- ILLEGAL_FD (no-op) (R338) -/
  | unused_FD
  /-- RST 0x38 (R310) -/
  | rst_38
  /-- RLC B (R264) -/
  | rlc_B
  /-- RLC C (R264) -/
  | rlc_C
  /-- RLC D (R264) -/
  | rlc_D
  /-- RLC E (R264) -/
  | rlc_E
  /-- RLC H (R264) -/
  | rlc_H
  /-- RLC L (R264) -/
  | rlc_L
  /-- RLC (HL) (R264) -/
  | rlc_mHL
  /-- RLC A (R264) -/
  | rlc_A
  /-- RRC B (R265) -/
  | rrc_B
  /-- RRC C (R265) -/
  | rrc_C
  /-- RRC D (R265) -/
  | rrc_D
  /-- RRC E (R265) -/
  | rrc_E
  /-- RRC H (R265) -/
  | rrc_H
  /-- RRC L (R265) -/
  | rrc_L
  /-- RRC (HL) (R265) -/
  | rrc_mHL
  /-- RRC A (R265) -/
  | rrc_A
  /-- RL B (R266) -/
  | rl_B
  /-- RL C (R266) -/
  | rl_C
  /-- RL D (R266) -/
  | rl_D
  /-- RL E (R266) -/
  | rl_E
  /-- RL H (R266) -/
  | rl_H
  /-- RL L (R266) -/
  | rl_L
  /-- RL (HL) (R266) -/
  | rl_mHL
  /-- RL A (R266) -/
  | rl_A
  /-- RR B (R267) -/
  | rr_B
  /-- RR C (R267) -/
  | rr_C
  /-- RR D (R267) -/
  | rr_D
  /-- RR E (R267) -/
  | rr_E
  /-- RR H (R267) -/
  | rr_H
  /-- RR L (R267) -/
  | rr_L
  /-- RR (HL) (R267) -/
  | rr_mHL
  /-- RR A (R267) -/
  | rr_A
  /-- SLA B (R268) -/
  | sla_B
  /-- SLA C (R268) -/
  | sla_C
  /-- SLA D (R268) -/
  | sla_D
  /-- SLA E (R268) -/
  | sla_E
  /-- SLA H (R268) -/
  | sla_H
  /-- SLA L (R268) -/
  | sla_L
  /-- SLA (HL) (R268) -/
  | sla_mHL
  /-- SLA A (R268) -/
  | sla_A
  /-- SRA B (R269) -/
  | sra_B
  /-- SRA C (R269) -/
  | sra_C
  /-- SRA D (R269) -/
  | sra_D
  /-- SRA E (R269) -/
  | sra_E
  /-- SRA H (R269) -/
  | sra_H
  /-- SRA L (R269) -/
  | sra_L
  /-- SRA (HL) (R269) -/
  | sra_mHL
  /-- SRA A (R269) -/
  | sra_A
  /-- SWAP B (R270) -/
  | swap_B
  /-- SWAP C (R270) -/
  | swap_C
  /-- SWAP D (R270) -/
  | swap_D
  /-- SWAP E (R270) -/
  | swap_E
  /-- SWAP H (R270) -/
  | swap_H
  /-- SWAP L (R270) -/
  | swap_L
  /-- SWAP (HL) (R270) -/
  | swap_mHL
  /-- SWAP A (R270) -/
  | swap_A
  /-- SRL B (R271) -/
  | srl_B
  /-- SRL C (R271) -/
  | srl_C
  /-- SRL D (R271) -/
  | srl_D
  /-- SRL E (R271) -/
  | srl_E
  /-- SRL H (R271) -/
  | srl_H
  /-- SRL L (R271) -/
  | srl_L
  /-- SRL (HL) (R271) -/
  | srl_mHL
  /-- SRL A (R271) -/
  | srl_A
  /-- BIT 0,B (R272) -/
  | bit_0_B
  /-- BIT 0,C (R272) -/
  | bit_0_C
  /-- BIT 0,D (R272) -/
  | bit_0_D
  /-- BIT 0,E (R272) -/
  | bit_0_E
  /-- BIT 0,H (R272) -/
  | bit_0_H
  /-- BIT 0,L (R272) -/
  | bit_0_L
  /-- BIT 0,(HL) (R272) -/
  | bit_0_mHL
  /-- BIT 0,A (R272) -/
  | bit_0_A
  /-- BIT 1,B (R272) -/
  | bit_1_B
  /-- BIT 1,C (R272) -/
  | bit_1_C
  /-- BIT 1,D (R272) -/
  | bit_1_D
  /-- BIT 1,E (R272) -/
  | bit_1_E
  /-- BIT 1,H (R272) -/
  | bit_1_H
  /-- BIT 1,L (R272) -/
  | bit_1_L
  /-- BIT 1,(HL) (R272) -/
  | bit_1_mHL
  /-- BIT 1,A (R272) -/
  | bit_1_A
  /-- BIT 2,B (R272) -/
  | bit_2_B
  /-- BIT 2,C (R272) -/
  | bit_2_C
  /-- BIT 2,D (R272) -/
  | bit_2_D
  /-- BIT 2,E (R272) -/
  | bit_2_E
  /-- BIT 2,H (R272) -/
  | bit_2_H
  /-- BIT 2,L (R272) -/
  | bit_2_L
  /-- BIT 2,(HL) (R272) -/
  | bit_2_mHL
  /-- BIT 2,A (R272) -/
  | bit_2_A
  /-- BIT 3,B (R272) -/
  | bit_3_B
  /-- BIT 3,C (R272) -/
  | bit_3_C
  /-- BIT 3,D (R272) -/
  | bit_3_D
  /-- BIT 3,E (R272) -/
  | bit_3_E
  /-- BIT 3,H (R272) -/
  | bit_3_H
  /-- BIT 3,L (R272) -/
  | bit_3_L
  /-- BIT 3,(HL) (R272) -/
  | bit_3_mHL
  /-- BIT 3,A (R272) -/
  | bit_3_A
  /-- BIT 4,B (R272) -/
  | bit_4_B
  /-- BIT 4,C (R272) -/
  | bit_4_C
  /-- BIT 4,D (R272) -/
  | bit_4_D
  /-- BIT 4,E (R272) -/
  | bit_4_E
  /-- BIT 4,H (R272) -/
  | bit_4_H
  /-- BIT 4,L (R272) -/
  | bit_4_L
  /-- BIT 4,(HL) (R272) -/
  | bit_4_mHL
  /-- BIT 4,A (R272) -/
  | bit_4_A
  /-- BIT 5,B (R272) -/
  | bit_5_B
  /-- BIT 5,C (R272) -/
  | bit_5_C
  /-- BIT 5,D (R272) -/
  | bit_5_D
  /-- BIT 5,E (R272) -/
  | bit_5_E
  /-- BIT 5,H (R272) -/
  | bit_5_H
  /-- BIT 5,L (R272) -/
  | bit_5_L
  /-- BIT 5,(HL) (R272) -/
  | bit_5_mHL
  /-- BIT 5,A (R272) -/
  | bit_5_A
  /-- BIT 6,B (R272) -/
  | bit_6_B
  /-- BIT 6,C (R272) -/
  | bit_6_C
  /-- BIT 6,D (R272) -/
  | bit_6_D
  /-- BIT 6,E (R272) -/
  | bit_6_E
  /-- BIT 6,H (R272) -/
  | bit_6_H
  /-- BIT 6,L (R272) -/
  | bit_6_L
  /-- BIT 6,(HL) (R272) -/
  | bit_6_mHL
  /-- BIT 6,A (R272) -/
  | bit_6_A
  /-- BIT 7,B (R272) -/
  | bit_7_B
  /-- BIT 7,C (R272) -/
  | bit_7_C
  /-- BIT 7,D (R272) -/
  | bit_7_D
  /-- BIT 7,E (R272) -/
  | bit_7_E
  /-- BIT 7,H (R272) -/
  | bit_7_H
  /-- BIT 7,L (R272) -/
  | bit_7_L
  /-- BIT 7,(HL) (R272) -/
  | bit_7_mHL
  /-- BIT 7,A (R272) -/
  | bit_7_A
  /-- RES 0,B (R273) -/
  | res_0_B
  /-- RES 0,C (R273) -/
  | res_0_C
  /-- RES 0,D (R273) -/
  | res_0_D
  /-- RES 0,E (R273) -/
  | res_0_E
  /-- RES 0,H (R273) -/
  | res_0_H
  /-- RES 0,L (R273) -/
  | res_0_L
  /-- RES 0,(HL) (R273) -/
  | res_0_mHL
  /-- RES 0,A (R273) -/
  | res_0_A
  /-- RES 1,B (R273) -/
  | res_1_B
  /-- RES 1,C (R273) -/
  | res_1_C
  /-- RES 1,D (R273) -/
  | res_1_D
  /-- RES 1,E (R273) -/
  | res_1_E
  /-- RES 1,H (R273) -/
  | res_1_H
  /-- RES 1,L (R273) -/
  | res_1_L
  /-- RES 1,(HL) (R273) -/
  | res_1_mHL
  /-- RES 1,A (R273) -/
  | res_1_A
  /-- RES 2,B (R273) -/
  | res_2_B
  /-- RES 2,C (R273) -/
  | res_2_C
  /-- RES 2,D (R273) -/
  | res_2_D
  /-- RES 2,E (R273) -/
  | res_2_E
  /-- RES 2,H (R273) -/
  | res_2_H
  /-- RES 2,L (R273) -/
  | res_2_L
  /-- RES 2,(HL) (R273) -/
  | res_2_mHL
  /-- RES 2,A (R273) -/
  | res_2_A
  /-- RES 3,B (R273) -/
  | res_3_B
  /-- RES 3,C (R273) -/
  | res_3_C
  /-- RES 3,D (R273) -/
  | res_3_D
  /-- RES 3,E (R273) -/
  | res_3_E
  /-- RES 3,H (R273) -/
  | res_3_H
  /-- RES 3,L (R273) -/
  | res_3_L
  /-- RES 3,(HL) (R273) -/
  | res_3_mHL
  /-- RES 3,A (R273) -/
  | res_3_A
  /-- RES 4,B (R273) -/
  | res_4_B
  /-- RES 4,C (R273) -/
  | res_4_C
  /-- RES 4,D (R273) -/
  | res_4_D
  /-- RES 4,E (R273) -/
  | res_4_E
  /-- RES 4,H (R273) -/
  | res_4_H
  /-- RES 4,L (R273) -/
  | res_4_L
  /-- RES 4,(HL) (R273) -/
  | res_4_mHL
  /-- RES 4,A (R273) -/
  | res_4_A
  /-- RES 5,B (R273) -/
  | res_5_B
  /-- RES 5,C (R273) -/
  | res_5_C
  /-- RES 5,D (R273) -/
  | res_5_D
  /-- RES 5,E (R273) -/
  | res_5_E
  /-- RES 5,H (R273) -/
  | res_5_H
  /-- RES 5,L (R273) -/
  | res_5_L
  /-- RES 5,(HL) (R273) -/
  | res_5_mHL
  /-- RES 5,A (R273) -/
  | res_5_A
  /-- RES 6,B (R273) -/
  | res_6_B
  /-- RES 6,C (R273) -/
  | res_6_C
  /-- RES 6,D (R273) -/
  | res_6_D
  /-- RES 6,E (R273) -/
  | res_6_E
  /-- RES 6,H (R273) -/
  | res_6_H
  /-- RES 6,L (R273) -/
  | res_6_L
  /-- RES 6,(HL) (R273) -/
  | res_6_mHL
  /-- RES 6,A (R273) -/
  | res_6_A
  /-- RES 7,B (R273) -/
  | res_7_B
  /-- RES 7,C (R273) -/
  | res_7_C
  /-- RES 7,D (R273) -/
  | res_7_D
  /-- RES 7,E (R273) -/
  | res_7_E
  /-- RES 7,H (R273) -/
  | res_7_H
  /-- RES 7,L (R273) -/
  | res_7_L
  /-- RES 7,(HL) (R273) -/
  | res_7_mHL
  /-- RES 7,A (R273) -/
  | res_7_A
  /-- SET 0,B (R274) -/
  | set_0_B
  /-- SET 0,C (R274) -/
  | set_0_C
  /-- SET 0,D (R274) -/
  | set_0_D
  /-- SET 0,E (R274) -/
  | set_0_E
  /-- SET 0,H (R274) -/
  | set_0_H
  /-- SET 0,L (R274) -/
  | set_0_L
  /-- SET 0,(HL) (R274) -/
  | set_0_mHL
  /-- SET 0,A (R274) -/
  | set_0_A
  /-- SET 1,B (R274) -/
  | set_1_B
  /-- SET 1,C (R274) -/
  | set_1_C
  /-- SET 1,D (R274) -/
  | set_1_D
  /-- SET 1,E (R274) -/
  | set_1_E
  /-- SET 1,H (R274) -/
  | set_1_H
  /-- SET 1,L (R274) -/
  | set_1_L
  /-- SET 1,(HL) (R274) -/
  | set_1_mHL
  /-- SET 1,A (R274) -/
  | set_1_A
  /-- SET 2,B (R274) -/
  | set_2_B
  /-- SET 2,C (R274) -/
  | set_2_C
  /-- SET 2,D (R274) -/
  | set_2_D
  /-- SET 2,E (R274) -/
  | set_2_E
  /-- SET 2,H (R274) -/
  | set_2_H
  /-- SET 2,L (R274) -/
  | set_2_L
  /-- SET 2,(HL) (R274) -/
  | set_2_mHL
  /-- SET 2,A (R274) -/
  | set_2_A
  /-- SET 3,B (R274) -/
  | set_3_B
  /-- SET 3,C (R274) -/
  | set_3_C
  /-- SET 3,D (R274) -/
  | set_3_D
  /-- SET 3,E (R274) -/
  | set_3_E
  /-- SET 3,H (R274) -/
  | set_3_H
  /-- SET 3,L (R274) -/
  | set_3_L
  /-- SET 3,(HL) (R274) -/
  | set_3_mHL
  /-- SET 3,A (R274) -/
  | set_3_A
  /-- SET 4,B (R274) -/
  | set_4_B
  /-- SET 4,C (R274) -/
  | set_4_C
  /-- SET 4,D (R274) -/
  | set_4_D
  /-- SET 4,E (R274) -/
  | set_4_E
  /-- SET 4,H (R274) -/
  | set_4_H
  /-- SET 4,L (R274) -/
  | set_4_L
  /-- SET 4,(HL) (R274) -/
  | set_4_mHL
  /-- SET 4,A (R274) -/
  | set_4_A
  /-- SET 5,B (R274) -/
  | set_5_B
  /-- SET 5,C (R274) -/
  | set_5_C
  /-- SET 5,D (R274) -/
  | set_5_D
  /-- SET 5,E (R274) -/
  | set_5_E
  /-- SET 5,H (R274) -/
  | set_5_H
  /-- SET 5,L (R274) -/
  | set_5_L
  /-- SET 5,(HL) (R274) -/
  | set_5_mHL
  /-- SET 5,A (R274) -/
  | set_5_A
  /-- SET 6,B (R274) -/
  | set_6_B
  /-- SET 6,C (R274) -/
  | set_6_C
  /-- SET 6,D (R274) -/
  | set_6_D
  /-- SET 6,E (R274) -/
  | set_6_E
  /-- SET 6,H (R274) -/
  | set_6_H
  /-- SET 6,L (R274) -/
  | set_6_L
  /-- SET 6,(HL) (R274) -/
  | set_6_mHL
  /-- SET 6,A (R274) -/
  | set_6_A
  /-- SET 7,B (R274) -/
  | set_7_B
  /-- SET 7,C (R274) -/
  | set_7_C
  /-- SET 7,D (R274) -/
  | set_7_D
  /-- SET 7,E (R274) -/
  | set_7_E
  /-- SET 7,H (R274) -/
  | set_7_H
  /-- SET 7,L (R274) -/
  | set_7_L
  /-- SET 7,(HL) (R274) -/
  | set_7_mHL
  /-- SET 7,A (R274) -/
  | set_7_A
deriving DecidableEq, Repr

end Sys2Proof
end

