-- ==== Sys2Proof/Decode.lean ====
section
/-! DEFINITION. Decoding (30_encoding.md R120 to R135): fields, the rows of each format as functions of their fields, the
decoder, total on any bytes and refusing only a list that ends inside an instruction; and after it the encoder. -/

namespace Sys2Proof

/-! ### Fields (R123 to R127) -/

/-- A 3-bit field. -/
def idxOf (v : BitVec 3) : Idx8 :=
  match v.toNat with
  | 0 => .i0
  | 1 => .i1
  | 2 => .i2
  | 3 => .i3
  | 4 => .i4
  | 5 => .i5
  | 6 => .i6
  | _ => .i7

/-- The number of a bit index or an RST index. -/
def Idx8.toNat : Idx8 → Nat
  | .i0 => 0
  | .i1 => 1
  | .i2 => 2
  | .i3 => 3
  | .i4 => 4
  | .i5 => 5
  | .i6 => 6
  | .i7 => 7

/-- The field `sss`, bits 2:0 (R123). -/
def fieldLow (op : Byte) : Idx8 := idxOf (op.extractLsb' 0 3)

/-- The middle field `ddd`, `ooo`, `bbb` or `ttt`, bits 5:3 (R123). -/
def fieldMid (op : Byte) : Idx8 := idxOf (op.extractLsb' 3 3)

/-- The quadrant, bits 7:6 (R130). -/
def fieldQuadrant (op : Byte) : Nat := (op.extractLsb' 6 2).toNat

/-- The 8-bit operand a code names (R124). -/
def r8Of : Idx8 → R8
  | .i0 => .B
  | .i1 => .C
  | .i2 => .D
  | .i3 => .E
  | .i4 => .H
  | .i5 => .L
  | .i6 => .mHL
  | .i7 => .A

/-- The ALU operation a code names (R130). -/
def aluOf : Idx8 → AluOp
  | .i0 => .add
  | .i1 => .adc
  | .i2 => .sub
  | .i3 => .sbc
  | .i4 => .and
  | .i5 => .xor
  | .i6 => .or
  | .i7 => .cp

/-- The CB operation a code names (R134). -/
def shiftOf : Idx8 → ShiftOp
  | .i0 => .rlc
  | .i1 => .rrc
  | .i2 => .rl
  | .i3 => .rr
  | .i4 => .sla
  | .i5 => .sra
  | .i6 => .swap
  | .i7 => .srl

/-! ### The rows of each format (R129, R131, R134) -/

/-- `01 ddd sss`: LD r,r', LD r,(HL), LD (HL),r, and HALT in the slot of LD (HL),(HL) (R130, R160 to R162). -/
def ldRow : R8 → R8 → Instr
  | .B, .B => .ld_B_B
  | .B, .C => .ld_B_C
  | .B, .D => .ld_B_D
  | .B, .E => .ld_B_E
  | .B, .H => .ld_B_H
  | .B, .L => .ld_B_L
  | .B, .mHL => .ld_B_mHL
  | .B, .A => .ld_B_A
  | .C, .B => .ld_C_B
  | .C, .C => .ld_C_C
  | .C, .D => .ld_C_D
  | .C, .E => .ld_C_E
  | .C, .H => .ld_C_H
  | .C, .L => .ld_C_L
  | .C, .mHL => .ld_C_mHL
  | .C, .A => .ld_C_A
  | .D, .B => .ld_D_B
  | .D, .C => .ld_D_C
  | .D, .D => .ld_D_D
  | .D, .E => .ld_D_E
  | .D, .H => .ld_D_H
  | .D, .L => .ld_D_L
  | .D, .mHL => .ld_D_mHL
  | .D, .A => .ld_D_A
  | .E, .B => .ld_E_B
  | .E, .C => .ld_E_C
  | .E, .D => .ld_E_D
  | .E, .E => .ld_E_E
  | .E, .H => .ld_E_H
  | .E, .L => .ld_E_L
  | .E, .mHL => .ld_E_mHL
  | .E, .A => .ld_E_A
  | .H, .B => .ld_H_B
  | .H, .C => .ld_H_C
  | .H, .D => .ld_H_D
  | .H, .E => .ld_H_E
  | .H, .H => .ld_H_H
  | .H, .L => .ld_H_L
  | .H, .mHL => .ld_H_mHL
  | .H, .A => .ld_H_A
  | .L, .B => .ld_L_B
  | .L, .C => .ld_L_C
  | .L, .D => .ld_L_D
  | .L, .E => .ld_L_E
  | .L, .H => .ld_L_H
  | .L, .L => .ld_L_L
  | .L, .mHL => .ld_L_mHL
  | .L, .A => .ld_L_A
  | .mHL, .B => .ld_mHL_B
  | .mHL, .C => .ld_mHL_C
  | .mHL, .D => .ld_mHL_D
  | .mHL, .E => .ld_mHL_E
  | .mHL, .H => .ld_mHL_H
  | .mHL, .L => .ld_mHL_L
  | .mHL, .mHL => .halt
  | .mHL, .A => .ld_mHL_A
  | .A, .B => .ld_A_B
  | .A, .C => .ld_A_C
  | .A, .D => .ld_A_D
  | .A, .E => .ld_A_E
  | .A, .H => .ld_A_H
  | .A, .L => .ld_A_L
  | .A, .mHL => .ld_A_mHL
  | .A, .A => .ld_A_A

/-- `10 ooo sss` (R130, R201 to R215). -/
def aluRow : AluOp → R8 → Instr
  | .add, .B => .add_A_B
  | .add, .C => .add_A_C
  | .add, .D => .add_A_D
  | .add, .E => .add_A_E
  | .add, .H => .add_A_H
  | .add, .L => .add_A_L
  | .add, .mHL => .add_A_mHL
  | .add, .A => .add_A_A
  | .adc, .B => .adc_A_B
  | .adc, .C => .adc_A_C
  | .adc, .D => .adc_A_D
  | .adc, .E => .adc_A_E
  | .adc, .H => .adc_A_H
  | .adc, .L => .adc_A_L
  | .adc, .mHL => .adc_A_mHL
  | .adc, .A => .adc_A_A
  | .sub, .B => .sub_B
  | .sub, .C => .sub_C
  | .sub, .D => .sub_D
  | .sub, .E => .sub_E
  | .sub, .H => .sub_H
  | .sub, .L => .sub_L
  | .sub, .mHL => .sub_mHL
  | .sub, .A => .sub_A
  | .sbc, .B => .sbc_A_B
  | .sbc, .C => .sbc_A_C
  | .sbc, .D => .sbc_A_D
  | .sbc, .E => .sbc_A_E
  | .sbc, .H => .sbc_A_H
  | .sbc, .L => .sbc_A_L
  | .sbc, .mHL => .sbc_A_mHL
  | .sbc, .A => .sbc_A_A
  | .and, .B => .and_B
  | .and, .C => .and_C
  | .and, .D => .and_D
  | .and, .E => .and_E
  | .and, .H => .and_H
  | .and, .L => .and_L
  | .and, .mHL => .and_mHL
  | .and, .A => .and_A
  | .xor, .B => .xor_B
  | .xor, .C => .xor_C
  | .xor, .D => .xor_D
  | .xor, .E => .xor_E
  | .xor, .H => .xor_H
  | .xor, .L => .xor_L
  | .xor, .mHL => .xor_mHL
  | .xor, .A => .xor_A
  | .or, .B => .or_B
  | .or, .C => .or_C
  | .or, .D => .or_D
  | .or, .E => .or_E
  | .or, .H => .or_H
  | .or, .L => .or_L
  | .or, .mHL => .or_mHL
  | .or, .A => .or_A
  | .cp, .B => .cp_B
  | .cp, .C => .cp_C
  | .cp, .D => .cp_D
  | .cp, .E => .cp_E
  | .cp, .H => .cp_H
  | .cp, .L => .cp_L
  | .cp, .mHL => .cp_mHL
  | .cp, .A => .cp_A

/-- `11 ooo 110`, u8 (R202 to R216). -/
def aluImmRow : AluOp → Byte → Instr
  | .add, n => .add_A_u8 n
  | .adc, n => .adc_A_u8 n
  | .sub, n => .sub_u8 n
  | .sbc, n => .sbc_A_u8 n
  | .and, n => .and_u8 n
  | .xor, n => .xor_u8 n
  | .or, n => .or_u8 n
  | .cp, n => .cp_u8 n

/-- `00 ddd 100` (R217, R218). -/
def incRow : R8 → Instr
  | .B => .inc_B
  | .C => .inc_C
  | .D => .inc_D
  | .E => .inc_E
  | .H => .inc_H
  | .L => .inc_L
  | .mHL => .inc_mHL
  | .A => .inc_A

/-- `00 ddd 101` (R219, R220). -/
def decRow : R8 → Instr
  | .B => .dec_B
  | .C => .dec_C
  | .D => .dec_D
  | .E => .dec_E
  | .H => .dec_H
  | .L => .dec_L
  | .mHL => .dec_mHL
  | .A => .dec_A

/-- `00 ddd 110`, u8 (R163, R164). -/
def ldImmRow : R8 → Byte → Instr
  | .B, n => .ld_B_u8 n
  | .C, n => .ld_C_u8 n
  | .D, n => .ld_D_u8 n
  | .E, n => .ld_E_u8 n
  | .H, n => .ld_H_u8 n
  | .L, n => .ld_L_u8 n
  | .mHL, n => .ld_mHL_u8 n
  | .A, n => .ld_A_u8 n

/-- `00 rr 0001`, u16 (R179). -/
def ldImm16Row : R16 → Word → Instr
  | .BC, nn => .ld_BC_u16 nn
  | .DE, nn => .ld_DE_u16 nn
  | .HL, nn => .ld_HL_u16 nn
  | .SP, nn => .ld_SP_u16 nn

/-- `00 rr 1001` (R240). -/
def addHLRow : R16 → Instr
  | .BC => .add_HL_BC
  | .DE => .add_HL_DE
  | .HL => .add_HL_HL
  | .SP => .add_HL_SP

/-- `00 rr 0011` (R241). -/
def inc16Row : R16 → Instr
  | .BC => .inc_BC
  | .DE => .inc_DE
  | .HL => .inc_HL
  | .SP => .inc_SP

/-- `00 rr 1011` (R242). -/
def dec16Row : R16 → Instr
  | .BC => .dec_BC
  | .DE => .dec_DE
  | .HL => .dec_HL
  | .SP => .dec_SP

/-- `11 rr 0101` (R181). -/
def pushRow : R16Stk → Instr
  | .BC => .push_BC
  | .DE => .push_DE
  | .HL => .push_HL
  | .AF => .push_AF

/-- `11 rr 0001` (R182). -/
def popRow : R16Stk → Instr
  | .BC => .pop_BC
  | .DE => .pop_DE
  | .HL => .pop_HL
  | .AF => .pop_AF

/-- `001 cc 000`, i8 (R304). -/
def jrRow : Cond → Byte → Instr
  | .NZ, e => .jr_NZ_i8 e
  | .Z, e => .jr_Z_i8 e
  | .NC, e => .jr_NC_i8 e
  | .C, e => .jr_C_i8 e

/-- `110 cc 000` (R308). -/
def retRow : Cond → Instr
  | .NZ => .ret_NZ
  | .Z => .ret_Z
  | .NC => .ret_NC
  | .C => .ret_C

/-- `110 cc 010`, u16 (R301). -/
def jpRow : Cond → Word → Instr
  | .NZ, nn => .jp_NZ_u16 nn
  | .Z, nn => .jp_Z_u16 nn
  | .NC, nn => .jp_NC_u16 nn
  | .C, nn => .jp_C_u16 nn

/-- `110 cc 100`, u16 (R306). -/
def callRow : Cond → Word → Instr
  | .NZ, nn => .call_NZ_u16 nn
  | .Z, nn => .call_Z_u16 nn
  | .NC, nn => .call_NC_u16 nn
  | .C, nn => .call_C_u16 nn

/-- `11 ttt 111` (R310). -/
def rstRow : Idx8 → Instr
  | .i0 => .rst_00
  | .i1 => .rst_08
  | .i2 => .rst_10
  | .i3 => .rst_18
  | .i4 => .rst_20
  | .i5 => .rst_28
  | .i6 => .rst_30
  | .i7 => .rst_38

/-- `CB 00 ooo sss` (R264 to R271). -/
def shiftRow : ShiftOp → R8 → Instr
  | .rlc, .B => .rlc_B
  | .rlc, .C => .rlc_C
  | .rlc, .D => .rlc_D
  | .rlc, .E => .rlc_E
  | .rlc, .H => .rlc_H
  | .rlc, .L => .rlc_L
  | .rlc, .mHL => .rlc_mHL
  | .rlc, .A => .rlc_A
  | .rrc, .B => .rrc_B
  | .rrc, .C => .rrc_C
  | .rrc, .D => .rrc_D
  | .rrc, .E => .rrc_E
  | .rrc, .H => .rrc_H
  | .rrc, .L => .rrc_L
  | .rrc, .mHL => .rrc_mHL
  | .rrc, .A => .rrc_A
  | .rl, .B => .rl_B
  | .rl, .C => .rl_C
  | .rl, .D => .rl_D
  | .rl, .E => .rl_E
  | .rl, .H => .rl_H
  | .rl, .L => .rl_L
  | .rl, .mHL => .rl_mHL
  | .rl, .A => .rl_A
  | .rr, .B => .rr_B
  | .rr, .C => .rr_C
  | .rr, .D => .rr_D
  | .rr, .E => .rr_E
  | .rr, .H => .rr_H
  | .rr, .L => .rr_L
  | .rr, .mHL => .rr_mHL
  | .rr, .A => .rr_A
  | .sla, .B => .sla_B
  | .sla, .C => .sla_C
  | .sla, .D => .sla_D
  | .sla, .E => .sla_E
  | .sla, .H => .sla_H
  | .sla, .L => .sla_L
  | .sla, .mHL => .sla_mHL
  | .sla, .A => .sla_A
  | .sra, .B => .sra_B
  | .sra, .C => .sra_C
  | .sra, .D => .sra_D
  | .sra, .E => .sra_E
  | .sra, .H => .sra_H
  | .sra, .L => .sra_L
  | .sra, .mHL => .sra_mHL
  | .sra, .A => .sra_A
  | .swap, .B => .swap_B
  | .swap, .C => .swap_C
  | .swap, .D => .swap_D
  | .swap, .E => .swap_E
  | .swap, .H => .swap_H
  | .swap, .L => .swap_L
  | .swap, .mHL => .swap_mHL
  | .swap, .A => .swap_A
  | .srl, .B => .srl_B
  | .srl, .C => .srl_C
  | .srl, .D => .srl_D
  | .srl, .E => .srl_E
  | .srl, .H => .srl_H
  | .srl, .L => .srl_L
  | .srl, .mHL => .srl_mHL
  | .srl, .A => .srl_A

/-- `CB 01 bbb sss` (R272). -/
def bitRow : Idx8 → R8 → Instr
  | .i0, .B => .bit_0_B
  | .i0, .C => .bit_0_C
  | .i0, .D => .bit_0_D
  | .i0, .E => .bit_0_E
  | .i0, .H => .bit_0_H
  | .i0, .L => .bit_0_L
  | .i0, .mHL => .bit_0_mHL
  | .i0, .A => .bit_0_A
  | .i1, .B => .bit_1_B
  | .i1, .C => .bit_1_C
  | .i1, .D => .bit_1_D
  | .i1, .E => .bit_1_E
  | .i1, .H => .bit_1_H
  | .i1, .L => .bit_1_L
  | .i1, .mHL => .bit_1_mHL
  | .i1, .A => .bit_1_A
  | .i2, .B => .bit_2_B
  | .i2, .C => .bit_2_C
  | .i2, .D => .bit_2_D
  | .i2, .E => .bit_2_E
  | .i2, .H => .bit_2_H
  | .i2, .L => .bit_2_L
  | .i2, .mHL => .bit_2_mHL
  | .i2, .A => .bit_2_A
  | .i3, .B => .bit_3_B
  | .i3, .C => .bit_3_C
  | .i3, .D => .bit_3_D
  | .i3, .E => .bit_3_E
  | .i3, .H => .bit_3_H
  | .i3, .L => .bit_3_L
  | .i3, .mHL => .bit_3_mHL
  | .i3, .A => .bit_3_A
  | .i4, .B => .bit_4_B
  | .i4, .C => .bit_4_C
  | .i4, .D => .bit_4_D
  | .i4, .E => .bit_4_E
  | .i4, .H => .bit_4_H
  | .i4, .L => .bit_4_L
  | .i4, .mHL => .bit_4_mHL
  | .i4, .A => .bit_4_A
  | .i5, .B => .bit_5_B
  | .i5, .C => .bit_5_C
  | .i5, .D => .bit_5_D
  | .i5, .E => .bit_5_E
  | .i5, .H => .bit_5_H
  | .i5, .L => .bit_5_L
  | .i5, .mHL => .bit_5_mHL
  | .i5, .A => .bit_5_A
  | .i6, .B => .bit_6_B
  | .i6, .C => .bit_6_C
  | .i6, .D => .bit_6_D
  | .i6, .E => .bit_6_E
  | .i6, .H => .bit_6_H
  | .i6, .L => .bit_6_L
  | .i6, .mHL => .bit_6_mHL
  | .i6, .A => .bit_6_A
  | .i7, .B => .bit_7_B
  | .i7, .C => .bit_7_C
  | .i7, .D => .bit_7_D
  | .i7, .E => .bit_7_E
  | .i7, .H => .bit_7_H
  | .i7, .L => .bit_7_L
  | .i7, .mHL => .bit_7_mHL
  | .i7, .A => .bit_7_A

/-- `CB 10 bbb sss` (R273). -/
def resRow : Idx8 → R8 → Instr
  | .i0, .B => .res_0_B
  | .i0, .C => .res_0_C
  | .i0, .D => .res_0_D
  | .i0, .E => .res_0_E
  | .i0, .H => .res_0_H
  | .i0, .L => .res_0_L
  | .i0, .mHL => .res_0_mHL
  | .i0, .A => .res_0_A
  | .i1, .B => .res_1_B
  | .i1, .C => .res_1_C
  | .i1, .D => .res_1_D
  | .i1, .E => .res_1_E
  | .i1, .H => .res_1_H
  | .i1, .L => .res_1_L
  | .i1, .mHL => .res_1_mHL
  | .i1, .A => .res_1_A
  | .i2, .B => .res_2_B
  | .i2, .C => .res_2_C
  | .i2, .D => .res_2_D
  | .i2, .E => .res_2_E
  | .i2, .H => .res_2_H
  | .i2, .L => .res_2_L
  | .i2, .mHL => .res_2_mHL
  | .i2, .A => .res_2_A
  | .i3, .B => .res_3_B
  | .i3, .C => .res_3_C
  | .i3, .D => .res_3_D
  | .i3, .E => .res_3_E
  | .i3, .H => .res_3_H
  | .i3, .L => .res_3_L
  | .i3, .mHL => .res_3_mHL
  | .i3, .A => .res_3_A
  | .i4, .B => .res_4_B
  | .i4, .C => .res_4_C
  | .i4, .D => .res_4_D
  | .i4, .E => .res_4_E
  | .i4, .H => .res_4_H
  | .i4, .L => .res_4_L
  | .i4, .mHL => .res_4_mHL
  | .i4, .A => .res_4_A
  | .i5, .B => .res_5_B
  | .i5, .C => .res_5_C
  | .i5, .D => .res_5_D
  | .i5, .E => .res_5_E
  | .i5, .H => .res_5_H
  | .i5, .L => .res_5_L
  | .i5, .mHL => .res_5_mHL
  | .i5, .A => .res_5_A
  | .i6, .B => .res_6_B
  | .i6, .C => .res_6_C
  | .i6, .D => .res_6_D
  | .i6, .E => .res_6_E
  | .i6, .H => .res_6_H
  | .i6, .L => .res_6_L
  | .i6, .mHL => .res_6_mHL
  | .i6, .A => .res_6_A
  | .i7, .B => .res_7_B
  | .i7, .C => .res_7_C
  | .i7, .D => .res_7_D
  | .i7, .E => .res_7_E
  | .i7, .H => .res_7_H
  | .i7, .L => .res_7_L
  | .i7, .mHL => .res_7_mHL
  | .i7, .A => .res_7_A

/-- `CB 11 bbb sss` (R274). -/
def setRow : Idx8 → R8 → Instr
  | .i0, .B => .set_0_B
  | .i0, .C => .set_0_C
  | .i0, .D => .set_0_D
  | .i0, .E => .set_0_E
  | .i0, .H => .set_0_H
  | .i0, .L => .set_0_L
  | .i0, .mHL => .set_0_mHL
  | .i0, .A => .set_0_A
  | .i1, .B => .set_1_B
  | .i1, .C => .set_1_C
  | .i1, .D => .set_1_D
  | .i1, .E => .set_1_E
  | .i1, .H => .set_1_H
  | .i1, .L => .set_1_L
  | .i1, .mHL => .set_1_mHL
  | .i1, .A => .set_1_A
  | .i2, .B => .set_2_B
  | .i2, .C => .set_2_C
  | .i2, .D => .set_2_D
  | .i2, .E => .set_2_E
  | .i2, .H => .set_2_H
  | .i2, .L => .set_2_L
  | .i2, .mHL => .set_2_mHL
  | .i2, .A => .set_2_A
  | .i3, .B => .set_3_B
  | .i3, .C => .set_3_C
  | .i3, .D => .set_3_D
  | .i3, .E => .set_3_E
  | .i3, .H => .set_3_H
  | .i3, .L => .set_3_L
  | .i3, .mHL => .set_3_mHL
  | .i3, .A => .set_3_A
  | .i4, .B => .set_4_B
  | .i4, .C => .set_4_C
  | .i4, .D => .set_4_D
  | .i4, .E => .set_4_E
  | .i4, .H => .set_4_H
  | .i4, .L => .set_4_L
  | .i4, .mHL => .set_4_mHL
  | .i4, .A => .set_4_A
  | .i5, .B => .set_5_B
  | .i5, .C => .set_5_C
  | .i5, .D => .set_5_D
  | .i5, .E => .set_5_E
  | .i5, .H => .set_5_H
  | .i5, .L => .set_5_L
  | .i5, .mHL => .set_5_mHL
  | .i5, .A => .set_5_A
  | .i6, .B => .set_6_B
  | .i6, .C => .set_6_C
  | .i6, .D => .set_6_D
  | .i6, .E => .set_6_E
  | .i6, .H => .set_6_H
  | .i6, .L => .set_6_L
  | .i6, .mHL => .set_6_mHL
  | .i6, .A => .set_6_A
  | .i7, .B => .set_7_B
  | .i7, .C => .set_7_C
  | .i7, .D => .set_7_D
  | .i7, .E => .set_7_E
  | .i7, .H => .set_7_H
  | .i7, .L => .set_7_L
  | .i7, .mHL => .set_7_mHL
  | .i7, .A => .set_7_A

/-! ### The base table by quadrant (R130, R131) -/

/-- Quadrant 00, low field 0. -/
def decode00_0 (y : Idx8) (b1 b2 : Byte) : Instr :=
  match y with
  | .i0 => .nop
  | .i1 => .ld_mU16_SP (wordOf b2 b1)
  | .i2 => .stop b1
  | .i3 => .jr_i8 b1
  | .i4 => jrRow .NZ b1
  | .i5 => jrRow .Z b1
  | .i6 => jrRow .NC b1
  | .i7 => jrRow .C b1

/-- Quadrant 00, low field 1. -/
def decode00_1 (y : Idx8) (b1 b2 : Byte) : Instr :=
  match y with
  | .i0 => ldImm16Row .BC (wordOf b2 b1)
  | .i1 => addHLRow .BC
  | .i2 => ldImm16Row .DE (wordOf b2 b1)
  | .i3 => addHLRow .DE
  | .i4 => ldImm16Row .HL (wordOf b2 b1)
  | .i5 => addHLRow .HL
  | .i6 => ldImm16Row .SP (wordOf b2 b1)
  | .i7 => addHLRow .SP

/-- Quadrant 00, low field 2: loads and stores of A through BC, DE, HL+ and HL-. -/
def decode00_2 (y : Idx8) : Instr :=
  match y with
  | .i0 => .ld_mBC_A
  | .i1 => .ld_A_mBC
  | .i2 => .ld_mDE_A
  | .i3 => .ld_A_mDE
  | .i4 => .ld_mHLinc_A
  | .i5 => .ld_A_mHLinc
  | .i6 => .ld_mHLdec_A
  | .i7 => .ld_A_mHLdec

/-- Quadrant 00, low field 3. -/
def decode00_3 (y : Idx8) : Instr :=
  match y with
  | .i0 => inc16Row .BC
  | .i1 => dec16Row .BC
  | .i2 => inc16Row .DE
  | .i3 => dec16Row .DE
  | .i4 => inc16Row .HL
  | .i5 => dec16Row .HL
  | .i6 => inc16Row .SP
  | .i7 => dec16Row .SP

/-- Quadrant 00, low field 7: accumulator rotates and flag instructions. -/
def decode00_7 (y : Idx8) : Instr :=
  match y with
  | .i0 => .rlca
  | .i1 => .rrca
  | .i2 => .rla
  | .i3 => .rra
  | .i4 => .daa
  | .i5 => .cpl
  | .i6 => .scf
  | .i7 => .ccf

/-- Quadrant 00. -/
def decode00 (y z : Idx8) (b1 b2 : Byte) : Instr :=
  match z with
  | .i0 => decode00_0 y b1 b2
  | .i1 => decode00_1 y b1 b2
  | .i2 => decode00_2 y
  | .i3 => decode00_3 y
  | .i4 => incRow (r8Of y)
  | .i5 => decRow (r8Of y)
  | .i6 => ldImmRow (r8Of y) b1
  | .i7 => decode00_7 y

/-- Quadrant 11, low field 0. -/
def decode11_0 (y : Idx8) (b1 : Byte) : Instr :=
  match y with
  | .i0 => retRow .NZ
  | .i1 => retRow .Z
  | .i2 => retRow .NC
  | .i3 => retRow .C
  | .i4 => .ldh_mU8_A b1
  | .i5 => .add_SP_i8 b1
  | .i6 => .ldh_A_mU8 b1
  | .i7 => .ld_HL_SPi8 b1

/-- Quadrant 11, low field 1. -/
def decode11_1 (y : Idx8) : Instr :=
  match y with
  | .i0 => popRow .BC
  | .i1 => .ret
  | .i2 => popRow .DE
  | .i3 => .reti
  | .i4 => popRow .HL
  | .i5 => .jp_HL
  | .i6 => popRow .AF
  | .i7 => .ld_SP_HL

/-- Quadrant 11, low field 2. -/
def decode11_2 (y : Idx8) (b1 b2 : Byte) : Instr :=
  match y with
  | .i0 => jpRow .NZ (wordOf b2 b1)
  | .i1 => jpRow .Z (wordOf b2 b1)
  | .i2 => jpRow .NC (wordOf b2 b1)
  | .i3 => jpRow .C (wordOf b2 b1)
  | .i4 => .ld_mC_A
  | .i5 => .ld_mU16_A (wordOf b2 b1)
  | .i6 => .ld_A_mC
  | .i7 => .ld_A_mU16 (wordOf b2 b1)

/-- Quadrant 11, low field 3. The slot 0xCB is the prefix; `decodeBytes` never comes here for it (R135, R339). -/
def decode11_3 (y : Idx8) (b1 b2 : Byte) : Instr :=
  match y with
  | .i0 => .jp_u16 (wordOf b2 b1)
  | .i1 => .prefix_CB
  | .i2 => .unused_D3
  | .i3 => .unused_DB
  | .i4 => .unused_E3
  | .i5 => .unused_EB
  | .i6 => .di
  | .i7 => .ei

/-- Quadrant 11, low field 4. -/
def decode11_4 (y : Idx8) (b1 b2 : Byte) : Instr :=
  match y with
  | .i0 => callRow .NZ (wordOf b2 b1)
  | .i1 => callRow .Z (wordOf b2 b1)
  | .i2 => callRow .NC (wordOf b2 b1)
  | .i3 => callRow .C (wordOf b2 b1)
  | .i4 => .unused_E4
  | .i5 => .unused_EC
  | .i6 => .unused_F4
  | .i7 => .unused_FC

/-- Quadrant 11, low field 5. -/
def decode11_5 (y : Idx8) (b1 b2 : Byte) : Instr :=
  match y with
  | .i0 => pushRow .BC
  | .i1 => .call_u16 (wordOf b2 b1)
  | .i2 => pushRow .DE
  | .i3 => .unused_DD
  | .i4 => pushRow .HL
  | .i5 => .unused_ED
  | .i6 => pushRow .AF
  | .i7 => .unused_FD

/-- Quadrant 11. -/
def decode11 (y z : Idx8) (b1 b2 : Byte) : Instr :=
  match z with
  | .i0 => decode11_0 y b1
  | .i1 => decode11_1 y
  | .i2 => decode11_2 y b1 b2
  | .i3 => decode11_3 y b1 b2
  | .i4 => decode11_4 y b1 b2
  | .i5 => decode11_5 y b1 b2
  | .i6 => aluImmRow (aluOf y) b1
  | .i7 => rstRow y

/-- The base table: the instruction of opcode `op` with the bytes after it (R131). -/
def decodeBase (op b1 b2 : Byte) : Instr :=
  match fieldQuadrant op with
  | 0 => decode00 (fieldMid op) (fieldLow op) b1 b2
  | 1 => ldRow (r8Of (fieldMid op)) (r8Of (fieldLow op))
  | 2 => aluRow (aluOf (fieldMid op)) (r8Of (fieldLow op))
  | _ => decode11 (fieldMid op) (fieldLow op) b1 b2

/-- The CB table (R134). -/
def decodeCb (op : Byte) : Instr :=
  match fieldQuadrant op with
  | 0 => shiftRow (shiftOf (fieldMid op)) (r8Of (fieldLow op))
  | 1 => bitRow (fieldMid op) (r8Of (fieldLow op))
  | 2 => resRow (fieldMid op) (r8Of (fieldLow op))
  | _ => setRow (fieldMid op) (r8Of (fieldLow op))

/-- Decode (R121): the byte 0xCB sends the next byte to the CB table, every other opcode is looked up in the base table.
Bytes past the instruction's length are not looked at. -/
def decodeBytes (op b1 b2 : Byte) : Instr := if op = 0xCB then decodeCb b1 else decodeBase op b1 b2

/-! ### Lengths (R120, R132) -/

/-- An instruction's length in bytes. -/
inductive InstrLength
  | one
  | two
  | three
deriving DecidableEq, Repr

/-- The opcodes of three-byte instructions (R132). -/
def threeByteOpcodes : List Byte :=
  [0x01, 0x08, 0x11, 0x21, 0x31, 0xC2, 0xC3, 0xC4, 0xCA, 0xCC, 0xCD, 0xD2, 0xD4, 0xDA, 0xDC, 0xEA, 0xFA]

/-- The opcodes of two-byte instructions, the prefix 0xCB among them (R132, R134). -/
def twoByteOpcodes : List Byte :=
  [0x06, 0x0E, 0x10, 0x16, 0x18, 0x1E, 0x20, 0x26, 0x28, 0x2E, 0x30, 0x36, 0x38, 0x3E, 0xC6, 0xCB, 0xCE] ++
  [0xD6, 0xDE, 0xE0, 0xE6, 0xE8, 0xEE, 0xF0, 0xF6, 0xF8, 0xFE]

/-- The length the first byte alone decides (R120, R135). -/
def lengthOf (op : Byte) : InstrLength :=
  if threeByteOpcodes.contains op then .three else if twoByteOpcodes.contains op then .two else .one

/-- Why a byte list does not decode. -/
inductive DecodeError
  /-- the list ends before the instruction does -/
  | truncated
deriving DecidableEq, Repr

/-- Decode the instruction at the front of a byte list; the rest of the list comes back with it. -/
def decode : List Byte → Except DecodeError (Instr × List Byte)
  | [] => .error .truncated
  | op :: rest =>
    match lengthOf op, rest with
    | .one, rest => .ok (decodeBytes op 0 0, rest)
    | .two, b1 :: rest => .ok (decodeBytes op b1 0, rest)
    | .three, b1 :: b2 :: rest => .ok (decodeBytes op b1 b2, rest)
    | _, _ => .error .truncated

/-- The bytes, at most three, of a word numbered as spec/opcode_table.json numbers it (log 14): a CB row's number has 0xCB in
bits 15:8 and the second byte in bits 7:0; every other word has the first byte in bits 7:0. -/
def tableBytes (nbits w : Nat) : List Byte :=
  let v := w % 2 ^ nbits
  if nbits = 16 ∧ v / 0x100 = 0xCB then [0xCB, BitVec.ofNat 8 v, 0]
  else [BitVec.ofNat 8 v, BitVec.ofNat 8 (v / 0x100), BitVec.ofNat 8 (v / 0x10000)]

/-- The instruction the decoder reads from a table word. -/
def decodeTableWord (nbits w : Nat) : Option Instr :=
  match decode (tableBytes nbits w) with
  | .ok (i, _) => some i
  | .error _ => none

/-! ### The encoder (R131, R134) -/

/-- The bytes of an instruction, first byte first. The bare prefix, which is no whole instruction, encodes to its one byte. -/
def encode : Instr → List Byte
  | .nop => [0x00]
  | .ld_BC_u16 nn => [0x01, loByte nn, hiByte nn]
  | .ld_mBC_A => [0x02]
  | .inc_BC => [0x03]
  | .inc_B => [0x04]
  | .dec_B => [0x05]
  | .ld_B_u8 n => [0x06, n]
  | .rlca => [0x07]
  | .ld_mU16_SP nn => [0x08, loByte nn, hiByte nn]
  | .add_HL_BC => [0x09]
  | .ld_A_mBC => [0x0A]
  | .dec_BC => [0x0B]
  | .inc_C => [0x0C]
  | .dec_C => [0x0D]
  | .ld_C_u8 n => [0x0E, n]
  | .rrca => [0x0F]
  | .stop n => [0x10, n]
  | .ld_DE_u16 nn => [0x11, loByte nn, hiByte nn]
  | .ld_mDE_A => [0x12]
  | .inc_DE => [0x13]
  | .inc_D => [0x14]
  | .dec_D => [0x15]
  | .ld_D_u8 n => [0x16, n]
  | .rla => [0x17]
  | .jr_i8 e => [0x18, e]
  | .add_HL_DE => [0x19]
  | .ld_A_mDE => [0x1A]
  | .dec_DE => [0x1B]
  | .inc_E => [0x1C]
  | .dec_E => [0x1D]
  | .ld_E_u8 n => [0x1E, n]
  | .rra => [0x1F]
  | .jr_NZ_i8 e => [0x20, e]
  | .ld_HL_u16 nn => [0x21, loByte nn, hiByte nn]
  | .ld_mHLinc_A => [0x22]
  | .inc_HL => [0x23]
  | .inc_H => [0x24]
  | .dec_H => [0x25]
  | .ld_H_u8 n => [0x26, n]
  | .daa => [0x27]
  | .jr_Z_i8 e => [0x28, e]
  | .add_HL_HL => [0x29]
  | .ld_A_mHLinc => [0x2A]
  | .dec_HL => [0x2B]
  | .inc_L => [0x2C]
  | .dec_L => [0x2D]
  | .ld_L_u8 n => [0x2E, n]
  | .cpl => [0x2F]
  | .jr_NC_i8 e => [0x30, e]
  | .ld_SP_u16 nn => [0x31, loByte nn, hiByte nn]
  | .ld_mHLdec_A => [0x32]
  | .inc_SP => [0x33]
  | .inc_mHL => [0x34]
  | .dec_mHL => [0x35]
  | .ld_mHL_u8 n => [0x36, n]
  | .scf => [0x37]
  | .jr_C_i8 e => [0x38, e]
  | .add_HL_SP => [0x39]
  | .ld_A_mHLdec => [0x3A]
  | .dec_SP => [0x3B]
  | .inc_A => [0x3C]
  | .dec_A => [0x3D]
  | .ld_A_u8 n => [0x3E, n]
  | .ccf => [0x3F]
  | .ld_B_B => [0x40]
  | .ld_B_C => [0x41]
  | .ld_B_D => [0x42]
  | .ld_B_E => [0x43]
  | .ld_B_H => [0x44]
  | .ld_B_L => [0x45]
  | .ld_B_mHL => [0x46]
  | .ld_B_A => [0x47]
  | .ld_C_B => [0x48]
  | .ld_C_C => [0x49]
  | .ld_C_D => [0x4A]
  | .ld_C_E => [0x4B]
  | .ld_C_H => [0x4C]
  | .ld_C_L => [0x4D]
  | .ld_C_mHL => [0x4E]
  | .ld_C_A => [0x4F]
  | .ld_D_B => [0x50]
  | .ld_D_C => [0x51]
  | .ld_D_D => [0x52]
  | .ld_D_E => [0x53]
  | .ld_D_H => [0x54]
  | .ld_D_L => [0x55]
  | .ld_D_mHL => [0x56]
  | .ld_D_A => [0x57]
  | .ld_E_B => [0x58]
  | .ld_E_C => [0x59]
  | .ld_E_D => [0x5A]
  | .ld_E_E => [0x5B]
  | .ld_E_H => [0x5C]
  | .ld_E_L => [0x5D]
  | .ld_E_mHL => [0x5E]
  | .ld_E_A => [0x5F]
  | .ld_H_B => [0x60]
  | .ld_H_C => [0x61]
  | .ld_H_D => [0x62]
  | .ld_H_E => [0x63]
  | .ld_H_H => [0x64]
  | .ld_H_L => [0x65]
  | .ld_H_mHL => [0x66]
  | .ld_H_A => [0x67]
  | .ld_L_B => [0x68]
  | .ld_L_C => [0x69]
  | .ld_L_D => [0x6A]
  | .ld_L_E => [0x6B]
  | .ld_L_H => [0x6C]
  | .ld_L_L => [0x6D]
  | .ld_L_mHL => [0x6E]
  | .ld_L_A => [0x6F]
  | .ld_mHL_B => [0x70]
  | .ld_mHL_C => [0x71]
  | .ld_mHL_D => [0x72]
  | .ld_mHL_E => [0x73]
  | .ld_mHL_H => [0x74]
  | .ld_mHL_L => [0x75]
  | .halt => [0x76]
  | .ld_mHL_A => [0x77]
  | .ld_A_B => [0x78]
  | .ld_A_C => [0x79]
  | .ld_A_D => [0x7A]
  | .ld_A_E => [0x7B]
  | .ld_A_H => [0x7C]
  | .ld_A_L => [0x7D]
  | .ld_A_mHL => [0x7E]
  | .ld_A_A => [0x7F]
  | .add_A_B => [0x80]
  | .add_A_C => [0x81]
  | .add_A_D => [0x82]
  | .add_A_E => [0x83]
  | .add_A_H => [0x84]
  | .add_A_L => [0x85]
  | .add_A_mHL => [0x86]
  | .add_A_A => [0x87]
  | .adc_A_B => [0x88]
  | .adc_A_C => [0x89]
  | .adc_A_D => [0x8A]
  | .adc_A_E => [0x8B]
  | .adc_A_H => [0x8C]
  | .adc_A_L => [0x8D]
  | .adc_A_mHL => [0x8E]
  | .adc_A_A => [0x8F]
  | .sub_B => [0x90]
  | .sub_C => [0x91]
  | .sub_D => [0x92]
  | .sub_E => [0x93]
  | .sub_H => [0x94]
  | .sub_L => [0x95]
  | .sub_mHL => [0x96]
  | .sub_A => [0x97]
  | .sbc_A_B => [0x98]
  | .sbc_A_C => [0x99]
  | .sbc_A_D => [0x9A]
  | .sbc_A_E => [0x9B]
  | .sbc_A_H => [0x9C]
  | .sbc_A_L => [0x9D]
  | .sbc_A_mHL => [0x9E]
  | .sbc_A_A => [0x9F]
  | .and_B => [0xA0]
  | .and_C => [0xA1]
  | .and_D => [0xA2]
  | .and_E => [0xA3]
  | .and_H => [0xA4]
  | .and_L => [0xA5]
  | .and_mHL => [0xA6]
  | .and_A => [0xA7]
  | .xor_B => [0xA8]
  | .xor_C => [0xA9]
  | .xor_D => [0xAA]
  | .xor_E => [0xAB]
  | .xor_H => [0xAC]
  | .xor_L => [0xAD]
  | .xor_mHL => [0xAE]
  | .xor_A => [0xAF]
  | .or_B => [0xB0]
  | .or_C => [0xB1]
  | .or_D => [0xB2]
  | .or_E => [0xB3]
  | .or_H => [0xB4]
  | .or_L => [0xB5]
  | .or_mHL => [0xB6]
  | .or_A => [0xB7]
  | .cp_B => [0xB8]
  | .cp_C => [0xB9]
  | .cp_D => [0xBA]
  | .cp_E => [0xBB]
  | .cp_H => [0xBC]
  | .cp_L => [0xBD]
  | .cp_mHL => [0xBE]
  | .cp_A => [0xBF]
  | .ret_NZ => [0xC0]
  | .pop_BC => [0xC1]
  | .jp_NZ_u16 nn => [0xC2, loByte nn, hiByte nn]
  | .jp_u16 nn => [0xC3, loByte nn, hiByte nn]
  | .call_NZ_u16 nn => [0xC4, loByte nn, hiByte nn]
  | .push_BC => [0xC5]
  | .add_A_u8 n => [0xC6, n]
  | .rst_00 => [0xC7]
  | .ret_Z => [0xC8]
  | .ret => [0xC9]
  | .jp_Z_u16 nn => [0xCA, loByte nn, hiByte nn]
  | .prefix_CB => [0xCB]
  | .call_Z_u16 nn => [0xCC, loByte nn, hiByte nn]
  | .call_u16 nn => [0xCD, loByte nn, hiByte nn]
  | .adc_A_u8 n => [0xCE, n]
  | .rst_08 => [0xCF]
  | .ret_NC => [0xD0]
  | .pop_DE => [0xD1]
  | .jp_NC_u16 nn => [0xD2, loByte nn, hiByte nn]
  | .unused_D3 => [0xD3]
  | .call_NC_u16 nn => [0xD4, loByte nn, hiByte nn]
  | .push_DE => [0xD5]
  | .sub_u8 n => [0xD6, n]
  | .rst_10 => [0xD7]
  | .ret_C => [0xD8]
  | .reti => [0xD9]
  | .jp_C_u16 nn => [0xDA, loByte nn, hiByte nn]
  | .unused_DB => [0xDB]
  | .call_C_u16 nn => [0xDC, loByte nn, hiByte nn]
  | .unused_DD => [0xDD]
  | .sbc_A_u8 n => [0xDE, n]
  | .rst_18 => [0xDF]
  | .ldh_mU8_A n => [0xE0, n]
  | .pop_HL => [0xE1]
  | .ld_mC_A => [0xE2]
  | .unused_E3 => [0xE3]
  | .unused_E4 => [0xE4]
  | .push_HL => [0xE5]
  | .and_u8 n => [0xE6, n]
  | .rst_20 => [0xE7]
  | .add_SP_i8 e => [0xE8, e]
  | .jp_HL => [0xE9]
  | .ld_mU16_A nn => [0xEA, loByte nn, hiByte nn]
  | .unused_EB => [0xEB]
  | .unused_EC => [0xEC]
  | .unused_ED => [0xED]
  | .xor_u8 n => [0xEE, n]
  | .rst_28 => [0xEF]
  | .ldh_A_mU8 n => [0xF0, n]
  | .pop_AF => [0xF1]
  | .ld_A_mC => [0xF2]
  | .di => [0xF3]
  | .unused_F4 => [0xF4]
  | .push_AF => [0xF5]
  | .or_u8 n => [0xF6, n]
  | .rst_30 => [0xF7]
  | .ld_HL_SPi8 e => [0xF8, e]
  | .ld_SP_HL => [0xF9]
  | .ld_A_mU16 nn => [0xFA, loByte nn, hiByte nn]
  | .ei => [0xFB]
  | .unused_FC => [0xFC]
  | .unused_FD => [0xFD]
  | .cp_u8 n => [0xFE, n]
  | .rst_38 => [0xFF]
  | .rlc_B => [0xCB, 0x00]
  | .rlc_C => [0xCB, 0x01]
  | .rlc_D => [0xCB, 0x02]
  | .rlc_E => [0xCB, 0x03]
  | .rlc_H => [0xCB, 0x04]
  | .rlc_L => [0xCB, 0x05]
  | .rlc_mHL => [0xCB, 0x06]
  | .rlc_A => [0xCB, 0x07]
  | .rrc_B => [0xCB, 0x08]
  | .rrc_C => [0xCB, 0x09]
  | .rrc_D => [0xCB, 0x0A]
  | .rrc_E => [0xCB, 0x0B]
  | .rrc_H => [0xCB, 0x0C]
  | .rrc_L => [0xCB, 0x0D]
  | .rrc_mHL => [0xCB, 0x0E]
  | .rrc_A => [0xCB, 0x0F]
  | .rl_B => [0xCB, 0x10]
  | .rl_C => [0xCB, 0x11]
  | .rl_D => [0xCB, 0x12]
  | .rl_E => [0xCB, 0x13]
  | .rl_H => [0xCB, 0x14]
  | .rl_L => [0xCB, 0x15]
  | .rl_mHL => [0xCB, 0x16]
  | .rl_A => [0xCB, 0x17]
  | .rr_B => [0xCB, 0x18]
  | .rr_C => [0xCB, 0x19]
  | .rr_D => [0xCB, 0x1A]
  | .rr_E => [0xCB, 0x1B]
  | .rr_H => [0xCB, 0x1C]
  | .rr_L => [0xCB, 0x1D]
  | .rr_mHL => [0xCB, 0x1E]
  | .rr_A => [0xCB, 0x1F]
  | .sla_B => [0xCB, 0x20]
  | .sla_C => [0xCB, 0x21]
  | .sla_D => [0xCB, 0x22]
  | .sla_E => [0xCB, 0x23]
  | .sla_H => [0xCB, 0x24]
  | .sla_L => [0xCB, 0x25]
  | .sla_mHL => [0xCB, 0x26]
  | .sla_A => [0xCB, 0x27]
  | .sra_B => [0xCB, 0x28]
  | .sra_C => [0xCB, 0x29]
  | .sra_D => [0xCB, 0x2A]
  | .sra_E => [0xCB, 0x2B]
  | .sra_H => [0xCB, 0x2C]
  | .sra_L => [0xCB, 0x2D]
  | .sra_mHL => [0xCB, 0x2E]
  | .sra_A => [0xCB, 0x2F]
  | .swap_B => [0xCB, 0x30]
  | .swap_C => [0xCB, 0x31]
  | .swap_D => [0xCB, 0x32]
  | .swap_E => [0xCB, 0x33]
  | .swap_H => [0xCB, 0x34]
  | .swap_L => [0xCB, 0x35]
  | .swap_mHL => [0xCB, 0x36]
  | .swap_A => [0xCB, 0x37]
  | .srl_B => [0xCB, 0x38]
  | .srl_C => [0xCB, 0x39]
  | .srl_D => [0xCB, 0x3A]
  | .srl_E => [0xCB, 0x3B]
  | .srl_H => [0xCB, 0x3C]
  | .srl_L => [0xCB, 0x3D]
  | .srl_mHL => [0xCB, 0x3E]
  | .srl_A => [0xCB, 0x3F]
  | .bit_0_B => [0xCB, 0x40]
  | .bit_0_C => [0xCB, 0x41]
  | .bit_0_D => [0xCB, 0x42]
  | .bit_0_E => [0xCB, 0x43]
  | .bit_0_H => [0xCB, 0x44]
  | .bit_0_L => [0xCB, 0x45]
  | .bit_0_mHL => [0xCB, 0x46]
  | .bit_0_A => [0xCB, 0x47]
  | .bit_1_B => [0xCB, 0x48]
  | .bit_1_C => [0xCB, 0x49]
  | .bit_1_D => [0xCB, 0x4A]
  | .bit_1_E => [0xCB, 0x4B]
  | .bit_1_H => [0xCB, 0x4C]
  | .bit_1_L => [0xCB, 0x4D]
  | .bit_1_mHL => [0xCB, 0x4E]
  | .bit_1_A => [0xCB, 0x4F]
  | .bit_2_B => [0xCB, 0x50]
  | .bit_2_C => [0xCB, 0x51]
  | .bit_2_D => [0xCB, 0x52]
  | .bit_2_E => [0xCB, 0x53]
  | .bit_2_H => [0xCB, 0x54]
  | .bit_2_L => [0xCB, 0x55]
  | .bit_2_mHL => [0xCB, 0x56]
  | .bit_2_A => [0xCB, 0x57]
  | .bit_3_B => [0xCB, 0x58]
  | .bit_3_C => [0xCB, 0x59]
  | .bit_3_D => [0xCB, 0x5A]
  | .bit_3_E => [0xCB, 0x5B]
  | .bit_3_H => [0xCB, 0x5C]
  | .bit_3_L => [0xCB, 0x5D]
  | .bit_3_mHL => [0xCB, 0x5E]
  | .bit_3_A => [0xCB, 0x5F]
  | .bit_4_B => [0xCB, 0x60]
  | .bit_4_C => [0xCB, 0x61]
  | .bit_4_D => [0xCB, 0x62]
  | .bit_4_E => [0xCB, 0x63]
  | .bit_4_H => [0xCB, 0x64]
  | .bit_4_L => [0xCB, 0x65]
  | .bit_4_mHL => [0xCB, 0x66]
  | .bit_4_A => [0xCB, 0x67]
  | .bit_5_B => [0xCB, 0x68]
  | .bit_5_C => [0xCB, 0x69]
  | .bit_5_D => [0xCB, 0x6A]
  | .bit_5_E => [0xCB, 0x6B]
  | .bit_5_H => [0xCB, 0x6C]
  | .bit_5_L => [0xCB, 0x6D]
  | .bit_5_mHL => [0xCB, 0x6E]
  | .bit_5_A => [0xCB, 0x6F]
  | .bit_6_B => [0xCB, 0x70]
  | .bit_6_C => [0xCB, 0x71]
  | .bit_6_D => [0xCB, 0x72]
  | .bit_6_E => [0xCB, 0x73]
  | .bit_6_H => [0xCB, 0x74]
  | .bit_6_L => [0xCB, 0x75]
  | .bit_6_mHL => [0xCB, 0x76]
  | .bit_6_A => [0xCB, 0x77]
  | .bit_7_B => [0xCB, 0x78]
  | .bit_7_C => [0xCB, 0x79]
  | .bit_7_D => [0xCB, 0x7A]
  | .bit_7_E => [0xCB, 0x7B]
  | .bit_7_H => [0xCB, 0x7C]
  | .bit_7_L => [0xCB, 0x7D]
  | .bit_7_mHL => [0xCB, 0x7E]
  | .bit_7_A => [0xCB, 0x7F]
  | .res_0_B => [0xCB, 0x80]
  | .res_0_C => [0xCB, 0x81]
  | .res_0_D => [0xCB, 0x82]
  | .res_0_E => [0xCB, 0x83]
  | .res_0_H => [0xCB, 0x84]
  | .res_0_L => [0xCB, 0x85]
  | .res_0_mHL => [0xCB, 0x86]
  | .res_0_A => [0xCB, 0x87]
  | .res_1_B => [0xCB, 0x88]
  | .res_1_C => [0xCB, 0x89]
  | .res_1_D => [0xCB, 0x8A]
  | .res_1_E => [0xCB, 0x8B]
  | .res_1_H => [0xCB, 0x8C]
  | .res_1_L => [0xCB, 0x8D]
  | .res_1_mHL => [0xCB, 0x8E]
  | .res_1_A => [0xCB, 0x8F]
  | .res_2_B => [0xCB, 0x90]
  | .res_2_C => [0xCB, 0x91]
  | .res_2_D => [0xCB, 0x92]
  | .res_2_E => [0xCB, 0x93]
  | .res_2_H => [0xCB, 0x94]
  | .res_2_L => [0xCB, 0x95]
  | .res_2_mHL => [0xCB, 0x96]
  | .res_2_A => [0xCB, 0x97]
  | .res_3_B => [0xCB, 0x98]
  | .res_3_C => [0xCB, 0x99]
  | .res_3_D => [0xCB, 0x9A]
  | .res_3_E => [0xCB, 0x9B]
  | .res_3_H => [0xCB, 0x9C]
  | .res_3_L => [0xCB, 0x9D]
  | .res_3_mHL => [0xCB, 0x9E]
  | .res_3_A => [0xCB, 0x9F]
  | .res_4_B => [0xCB, 0xA0]
  | .res_4_C => [0xCB, 0xA1]
  | .res_4_D => [0xCB, 0xA2]
  | .res_4_E => [0xCB, 0xA3]
  | .res_4_H => [0xCB, 0xA4]
  | .res_4_L => [0xCB, 0xA5]
  | .res_4_mHL => [0xCB, 0xA6]
  | .res_4_A => [0xCB, 0xA7]
  | .res_5_B => [0xCB, 0xA8]
  | .res_5_C => [0xCB, 0xA9]
  | .res_5_D => [0xCB, 0xAA]
  | .res_5_E => [0xCB, 0xAB]
  | .res_5_H => [0xCB, 0xAC]
  | .res_5_L => [0xCB, 0xAD]
  | .res_5_mHL => [0xCB, 0xAE]
  | .res_5_A => [0xCB, 0xAF]
  | .res_6_B => [0xCB, 0xB0]
  | .res_6_C => [0xCB, 0xB1]
  | .res_6_D => [0xCB, 0xB2]
  | .res_6_E => [0xCB, 0xB3]
  | .res_6_H => [0xCB, 0xB4]
  | .res_6_L => [0xCB, 0xB5]
  | .res_6_mHL => [0xCB, 0xB6]
  | .res_6_A => [0xCB, 0xB7]
  | .res_7_B => [0xCB, 0xB8]
  | .res_7_C => [0xCB, 0xB9]
  | .res_7_D => [0xCB, 0xBA]
  | .res_7_E => [0xCB, 0xBB]
  | .res_7_H => [0xCB, 0xBC]
  | .res_7_L => [0xCB, 0xBD]
  | .res_7_mHL => [0xCB, 0xBE]
  | .res_7_A => [0xCB, 0xBF]
  | .set_0_B => [0xCB, 0xC0]
  | .set_0_C => [0xCB, 0xC1]
  | .set_0_D => [0xCB, 0xC2]
  | .set_0_E => [0xCB, 0xC3]
  | .set_0_H => [0xCB, 0xC4]
  | .set_0_L => [0xCB, 0xC5]
  | .set_0_mHL => [0xCB, 0xC6]
  | .set_0_A => [0xCB, 0xC7]
  | .set_1_B => [0xCB, 0xC8]
  | .set_1_C => [0xCB, 0xC9]
  | .set_1_D => [0xCB, 0xCA]
  | .set_1_E => [0xCB, 0xCB]
  | .set_1_H => [0xCB, 0xCC]
  | .set_1_L => [0xCB, 0xCD]
  | .set_1_mHL => [0xCB, 0xCE]
  | .set_1_A => [0xCB, 0xCF]
  | .set_2_B => [0xCB, 0xD0]
  | .set_2_C => [0xCB, 0xD1]
  | .set_2_D => [0xCB, 0xD2]
  | .set_2_E => [0xCB, 0xD3]
  | .set_2_H => [0xCB, 0xD4]
  | .set_2_L => [0xCB, 0xD5]
  | .set_2_mHL => [0xCB, 0xD6]
  | .set_2_A => [0xCB, 0xD7]
  | .set_3_B => [0xCB, 0xD8]
  | .set_3_C => [0xCB, 0xD9]
  | .set_3_D => [0xCB, 0xDA]
  | .set_3_E => [0xCB, 0xDB]
  | .set_3_H => [0xCB, 0xDC]
  | .set_3_L => [0xCB, 0xDD]
  | .set_3_mHL => [0xCB, 0xDE]
  | .set_3_A => [0xCB, 0xDF]
  | .set_4_B => [0xCB, 0xE0]
  | .set_4_C => [0xCB, 0xE1]
  | .set_4_D => [0xCB, 0xE2]
  | .set_4_E => [0xCB, 0xE3]
  | .set_4_H => [0xCB, 0xE4]
  | .set_4_L => [0xCB, 0xE5]
  | .set_4_mHL => [0xCB, 0xE6]
  | .set_4_A => [0xCB, 0xE7]
  | .set_5_B => [0xCB, 0xE8]
  | .set_5_C => [0xCB, 0xE9]
  | .set_5_D => [0xCB, 0xEA]
  | .set_5_E => [0xCB, 0xEB]
  | .set_5_H => [0xCB, 0xEC]
  | .set_5_L => [0xCB, 0xED]
  | .set_5_mHL => [0xCB, 0xEE]
  | .set_5_A => [0xCB, 0xEF]
  | .set_6_B => [0xCB, 0xF0]
  | .set_6_C => [0xCB, 0xF1]
  | .set_6_D => [0xCB, 0xF2]
  | .set_6_E => [0xCB, 0xF3]
  | .set_6_H => [0xCB, 0xF4]
  | .set_6_L => [0xCB, 0xF5]
  | .set_6_mHL => [0xCB, 0xF6]
  | .set_6_A => [0xCB, 0xF7]
  | .set_7_B => [0xCB, 0xF8]
  | .set_7_C => [0xCB, 0xF9]
  | .set_7_D => [0xCB, 0xFA]
  | .set_7_E => [0xCB, 0xFB]
  | .set_7_H => [0xCB, 0xFC]
  | .set_7_L => [0xCB, 0xFD]
  | .set_7_mHL => [0xCB, 0xFE]
  | .set_7_A => [0xCB, 0xFF]

end Sys2Proof
end

