-- ==== Sys2Proof/Config.lean ====
section
/-! DEFINITION. The named parameters of 00_scope.md R9 with the defaults of 92_eei_decisions.md, as plain data, and the one
free value the spec leaves to a draw. The machine's `Config` rides in State as a field no step changes (log 1). -/

namespace Sys2Proof

/-- DIV_MODE (D3, 60_exceptions.md R381): what the 16-bit divider counts. -/
inductive DivMode
  /-- the divider counts once per 256 ticks (default) -/
  | literal
  /-- the divider counts every tick -/
  | cycleCounter
deriving DecidableEq, Repr

/-- EI_DELAY (D12, 45_system.md R337): when EI sets IME. -/
inductive EiDelay
  /-- EI_DELAY = 0: at once (default) -/
  | none
  /-- EI_DELAY = 1: at the end of the next instruction -/
  | oneInstruction
deriving DecidableEq, Repr

/-- HALT_BUG_MODE (D13, 45_system.md R332, R333). -/
inductive HaltBugMode
  /-- PC goes back to the HALT (default) -/
  | rewind
  /-- the next opcode fetch does not advance PC -/
  | repeatNextByte
deriving DecidableEq, Repr

/-- STOP_MODE (D15, 45_system.md R331). -/
inductive StopMode
  /-- STOP enters halted (default) -/
  | halt
  /-- STOP does nothing -/
  | noOp
  /-- the machine has no step past a STOP -/
  | stuck
deriving DecidableEq, Repr

/-- UNMAPPED_POLICY (D9, 20_memory.md R66): what an access to 0xE000 to 0xFEFF does. -/
inductive UnmappedPolicy
  /-- reads 0xFF, writes are dropped (default) -/
  | openBus
  /-- the access raises Unmodelled -/
  | fault
deriving DecidableEq, Repr

/-- IO_READ_MODEL (D8, 20_memory.md R70): what a read of a device's I/O byte gives. -/
inductive IoReadModel
  /-- the byte last written (default) -/
  | storage
  /-- any byte, drawn at each read -/
  | draw
deriving DecidableEq, Repr

/-- One of the 512 instruction slots (30_encoding.md R122): a base opcode or the byte after 0xCB. -/
inductive Slot
  | base (op : Byte)
  | cb (op : Byte)
deriving DecidableEq, Repr

/-- The cost of one slot in a CycleCost table that is not the default one (70_reset_and_hazards.md R440, D17):
the base cost and the cost of a taken branch. -/
structure CostEntry where
  slot  : Slot
  base  : Nat
  taken : Nat
deriving DecidableEq, Repr

/-- RESET_REGS (D21, 10_state.md R43): the register values at power-on. -/
structure ResetRegs where
  a  : Byte
  f  : Byte
  b  : Byte
  c  : Byte
  d  : Byte
  e  : Byte
  h  : Byte
  l  : Byte
  sp : Word
  pc : Word
deriving DecidableEq, Repr

/-- The default RESET_REGS of R43 (PRESUMED by the spec itself, log 6). -/
def ResetRegs.default : ResetRegs :=
  { a := 0x01, f := 0xB0, b := 0x00, c := 0x13, d := 0x00, e := 0xD8, h := 0x01, l := 0x4D, sp := 0xFFFE, pc := 0x0100 }

/-- The named parameters of R9, less the oracle ExternalIRQ, which is the field `env` of State (log 3).
`cycleCost` lists the slots whose costs are not the default ones (log 2). -/
structure Config where
  timerTicksPerCycle : Nat
  divMode            : DivMode
  eiDelay            : EiDelay
  haltBugMode        : HaltBugMode
  stopMode           : StopMode
  unmappedPolicy     : UnmappedPolicy
  ioReadModel        : IoReadModel
  cycleCost          : List CostEntry
  resetRegs          : ResetRegs
deriving DecidableEq, Repr

/-- Every parameter at its default (92_eei_decisions.md). -/
def Config.default : Config :=
  { timerTicksPerCycle := 1, divMode := .literal, eiDelay := .none, haltBugMode := .rewind, stopMode := .halt,
    unmappedPolicy := .openBus, ioReadModel := .storage, cycleCost := [], resetRegs := ResetRegs.default }

/-- FREE VALUE (D8, log 12): the n-th byte drawn by a read of a device's I/O address under IO_READ_MODEL = Draw.
It has no body: nothing can say what it is. -/
opaque Config.drawnByte : Nat → Byte

/-- One input of the oracle ExternalIRQ (60_exceptions.md R391): which of IF bits 0, 1, 3 and 4 it sets, and the bytes
it writes into the I/O block. A listed address that is no device's I/O byte is passed over. -/
structure EnvInput where
  vblank   : Bool
  lcd      : Bool
  serial   : Bool
  joypad   : Bool
  ioWrites : List (Word × Byte)
deriving DecidableEq, Repr

end Sys2Proof
end

