-- ==== Sys2Proof/Machine/Memory.lean ====
section
/-! DEFINITION. A memory array as a list of cells in one canonical form: keys strictly rising, no cell that holds what an
unlisted key reads as. Equal memories are equal lists. -/

namespace Sys2Proof.Machine

/-- A storage array (10_state.md R39). -/
abbrev Memory := List Host.Cell

namespace Memory

/-- What a key that is not listed reads as. DESIGN CHOICE (log 4, unsafe): 0x00; the spec makes each power-on byte a draw
(R43, D23), and `powerOn` takes the drawn contents as an argument. -/
def unlisted : Byte := 0x00

/-- The byte at key `k`. -/
def read : Memory → Nat → Byte
  | [], _ => unlisted
  | (k', v) :: rest, k => if k' = k then v else read rest k

/-- The array with `v` at key `k`, in canonical form again. -/
def write : Memory → Nat → Byte → Memory
  | [], k, v => if v = unlisted then [] else [(k, v)]
  | (k', w) :: rest, k, v =>
    if k < k' then (if v = unlisted then (k', w) :: rest else (k, v) :: (k', w) :: rest)
    else if k = k' then (if v = unlisted then rest else (k, v) :: rest)
    else (k', w) :: write rest k v

/-- The canonical form of the cells from key `lo` on. -/
def wfFrom : Nat → Memory → Bool
  | _, [] => true
  | lo, (k, v) :: rest => decide (lo ≤ k) && decide (v ≠ unlisted) && wfFrom (k + 1) rest

/-- The canonical form: keys strictly rising, no cell equal to the unlisted byte. -/
def wf (m : Memory) : Bool := wfFrom 0 m

/-- Every listed key satisfies `p` (no cell lies outside the array). -/
def keysIn (p : Nat → Bool) (m : Memory) : Bool := m.all fun c => p c.1

end Memory

end Sys2Proof.Machine
end

