-- ==== Sys2Proof/Machine/Cartridge.lean ====
section
/-! DEFINITION. The cartridge: what the header declares, fixed at load (00_scope.md R8, 10_state.md R38), the geometry the
mapper is parameterised by, and the load that may be refused (20_memory.md R94 to R97). -/

namespace Sys2Proof.Machine

/-- The mapper that governs the cartridge (R97): none (R91) or MBC1 (R80 to R88). -/
inductive MapperKind
  | romOnly
  | mbc1
deriving DecidableEq, Repr

/-- The RAM sizes the RAM-size byte can name (R96). -/
inductive RamSize
  | none
  | k8
  | k32
  | k128
  | k64
deriving DecidableEq, Repr

/-- A loaded cartridge: the mapper kind, the ROM-size byte, the RAM size and the ROM image. Nothing of it changes during
execution (R8, R38, R40, R75). -/
structure Cartridge where
  kind    : MapperKind
  romSize : Fin 9
  ramSize : RamSize
  rom     : Memory
deriving DecidableEq, Repr

/-- Why a load is refused (R95 to R97). -/
inductive LoadRefusal
  /-- an unrecognised cartridge-type byte (R97) -/
  | cartridgeType (code : Byte)
  /-- a ROM-size byte above 0x08 (R95) -/
  | romSize (code : Byte)
  /-- the image's length is not `0x8000 << romSizeByte` (R95) -/
  | imageLength (length : Nat)
  /-- a RAM-size byte outside the table (R96) -/
  | ramSize (code : Byte)
deriving DecidableEq, Repr

/-- `RamBytes` (R8, R96). -/
def RamSize.bytes : RamSize → Nat
  | .none => 0
  | .k8   => 0x2000
  | .k32  => 0x8000
  | .k128 => 0x20000
  | .k64  => 0x10000

/-- `RamBankBits` (R8): log2 of RamBytes / 0x2000, and 0 when there is no RAM. -/
def RamSize.bankBits : RamSize → Nat
  | .none => 0
  | .k8   => 0
  | .k32  => 2
  | .k128 => 4
  | .k64  => 3

namespace Cartridge

/-- `RomBankBits = 1 + romSizeByte` (R8, R95). -/
def romBankBits (c : Cartridge) : Nat := 1 + c.romSize.val

/-- The image's length in bytes, `0x8000 << romSizeByte` (R8, R87). -/
def romBytes (c : Cartridge) : Nat := 0x8000 <<< c.romSize.val

/-- `bankMask` (20_memory.md §4). -/
def bankMask (c : Cartridge) : Nat := (1 <<< c.romBankBits) - 1

/-- `ramMask` (20_memory.md §4). -/
def ramMask (c : Cartridge) : Nat := (1 <<< c.ramSize.bankBits) - 1

/-- The image lists no byte outside itself and is in canonical form. -/
def wf (c : Cartridge) : Bool := c.rom.wf && c.rom.keysIn fun k => decide (k < c.romBytes)

end Cartridge

/-- A cartridge image: its bytes and its length. -/
structure Image where
  bytes  : Memory
  length : Nat
deriving DecidableEq, Repr

/-- The cartridge-type byte (R97). -/
def mapperOfType (code : Byte) : Option MapperKind :=
  if code = 0x00 then some .romOnly
  else if code = 0x01 || code = 0x02 || code = 0x03 then some .mbc1
  else none

/-- The RAM-size byte (R96). -/
def ramSizeOfCode (code : Byte) : Option RamSize :=
  if code = 0x00 then some .none
  else if code = 0x02 then some .k8
  else if code = 0x03 then some .k32
  else if code = 0x04 then some .k128
  else if code = 0x05 then some .k64
  else none

/-- Parse the header at its fixed offsets (R94) and load, or say why not (R95 to R97). The order of the tests decides only
which reason is named (log 23). -/
def loadCartridge (img : Image) : Except LoadRefusal Cartridge :=
  let type := img.bytes.read 0x0147
  let romCode := img.bytes.read 0x0148
  let ramCode := img.bytes.read 0x0149
  match mapperOfType type with
  | none => .error (.cartridgeType type)
  | some kind =>
    if h : romCode.toNat < 9 then
      if img.length = 0x8000 <<< romCode.toNat then
        match ramSizeOfCode ramCode with
        | none => .error (.ramSize ramCode)
        | some ram => .ok { kind := kind, romSize := ⟨romCode.toNat, h⟩, ramSize := ram, rom := img.bytes }
      else .error (.imageLength img.length)
    else .error (.romSize romCode)

end Sys2Proof.Machine
end

