-- ==== Sys2Proof/Machine/State.lean ====
section
/-! DEFINITION. The machine's state as plain data (10_state.md R20 to R43), the reasons a step can stop, and the state after
reset. -/

namespace Sys2Proof.Machine

/-- The MBC1 banking-mode bit (20_memory.md R83): 0 = simple, 1 = advanced. -/
inductive BankMode
  | simple
  | advanced
deriving DecidableEq, Repr

/-- Why the machine stops. The hardware itself raises no exception (60_exceptions.md R360); these are the outcomes of
00_scope.md R14. -/
inductive Fault
  /-- Raised by `powerOn` only: the image cannot be loaded (R14, R95 to R97, R362). Safe: no run starts. -/
  | loadRefused (why : LoadRefusal)
  /-- Raised by any Bus access to 0xE000 to 0xFEFF under UNMAPPED_POLICY = Fault (R66). Safe: the setting asks to prove
  nothing about the range (D9). -/
  | unmappedAccess (addr : Word)
  /-- Raised by STOP under STOP_MODE = Stuck (R331, R362). Safe: the setting asks to prove nothing past a STOP (D15). -/
  | stoppedForEver
deriving DecidableEq, Repr

/-- Why an instruction is refused. -/
inductive Refusal
  /-- Raised by an arm of exec that has no meaning yet. Safe. No arm of this model does. -/
  | notModelled (mnemonic : String)
deriving DecidableEq, Repr

/-- Everything the spec gives the machine, the parameters and the cartridge it runs with, and the model's own fields
`env`, `cycles` and `draws` (INVENTORY.md, State). -/
structure State where
  /-- the named parameters (R9, R40); no step changes them (log 1) -/
  cfg : Config
  /-- the loaded cartridge (R8, R38, R39); no step changes it -/
  cart : Cartridge
  /-- R20 -/
  a : Byte
  /-- the flag byte (R20, R22, R23) -/
  f : Byte
  b : Byte
  c : Byte
  d : Byte
  e : Byte
  h : Byte
  l : Byte
  /-- R27 -/
  sp : Word
  /-- R26 -/
  pc : Word
  /-- the interrupt master enable (R28) -/
  ime : Bool
  /-- R31 -/
  halted : Bool
  /-- R32, read and set only under EI_DELAY = 1 -/
  eiPending : Bool
  /-- R32, read and set only under HALT_BUG_MODE = RepeatNextByte -/
  haltBugPending : Bool
  /-- the interrupt-enable register IE (R29) -/
  ie : Byte
  /-- the interrupt-request register IF (R30) -/
  ifr : Byte
  /-- R33 -/
  divider : Word
  /-- R34 -/
  tima : Byte
  /-- R35 -/
  tma : Byte
  /-- R36 -/
  tac : Byte
  /-- R37 -/
  timerAccum : Nat
  /-- R37 -/
  divAccum : Nat
  /-- MBC1 (R38, R80) -/
  ramEnabled : Bool
  /-- MBC1 (R38, R81) -/
  primary : BitVec 5
  /-- MBC1 (R38, R82) -/
  secondary : BitVec 2
  /-- MBC1 (R38, R83) -/
  mode : BankMode
  /-- video RAM, working RAM, the plain I/O bytes and high RAM (R39), each byte at its CPU address -/
  mem : Memory
  /-- cartridge RAM (R39), each byte at its physical offset (R84) -/
  cartRam : Memory
  /-- the oracle's coming inputs (R391, log 3) -/
  env : List EnvInput
  /-- the cycle count the last Step returned (R370, log 13) -/
  cycles : Nat
  /-- how many free bytes have been drawn (D8, log 12) -/
  draws : Nat
deriving DecidableEq, Repr

/-- The all-zero 32 KiB ROM-only image of vector V-RST-1, loaded (DESIGN CHOICE, log 5). -/
def Cartridge.blank : Cartridge := { kind := .romOnly, romSize := 0, ramSize := .none, rom := [] }

/-- The machine right after reset (R43, R420): every parameter at its default, the blank cartridge, no memory listed. -/
def State.reset : State :=
  { cfg := Config.default, cart := Cartridge.blank,
    a := 0x01, f := 0xB0, b := 0x00, c := 0x13, d := 0x00, e := 0xD8, h := 0x01, l := 0x4D, sp := 0xFFFE, pc := 0x0100,
    ime := false, halted := false, eiPending := false, haltBugPending := false, ie := 0x00, ifr := 0x00,
    divider := 0x0000, tima := 0x00, tma := 0x00, tac := 0x00, timerAccum := 0, divAccum := 0,
    ramEnabled := false, primary := 1, secondary := 0, mode := .simple,
    mem := [], cartRam := [], env := [], cycles := 0, draws := 0 }

end Sys2Proof.Machine
end

