-- ==== Sys2Proof/Machine/Bus.lean ====
section
/-! DEFINITION. The Address Router and the bank controller: what a byte read gives and what a byte write does
(20_memory.md R60 to R91). Reads and writes that can stop are `read8` and `write8`. -/

namespace Sys2Proof.Machine

/-- The outcome of running a piece of the machine. -/
abbrev Out := Host.Outcome State Fault Refusal

/-- Go on with `k` if `o` answers a next state. -/
def andThen (o : Out) (k : State → Out) : Out :=
  match o with
  | .next s => k s
  | .fault r => .fault r
  | .refused r => .refused r

/-! ### The partition (R61) -/

/-- 0xE000 to 0xFEFF, the only addresses with no partition (R66). -/
def isUnmapped (addr : Word) : Bool := decide (0xE000 ≤ addr.toNat) && decide (addr.toNat ≤ 0xFEFF)

/-- An address of the I/O block that is no register of this block: a device's byte (R70, R391). -/
def isDeviceIo (addr : Word) : Bool :=
  decide (0xFF00 ≤ addr.toNat) && decide (addr.toNat ≤ 0xFF7F) &&
    !(addr == 0xFF04 || addr == 0xFF05 || addr == 0xFF06 || addr == 0xFF07 || addr == 0xFF0F)

/-- An address whose byte lies in the array `mem`: video RAM, working RAM, a device's I/O byte, high RAM (R39). -/
def isPlain (addr : Word) : Bool :=
  (decide (0x8000 ≤ addr.toNat) && decide (addr.toNat ≤ 0x9FFF)) ||
  (decide (0xC000 ≤ addr.toNat) && decide (addr.toNat ≤ 0xDFFF)) ||
  isDeviceIo addr ||
  (decide (0xFF80 ≤ addr.toNat) && decide (addr.toNat ≤ 0xFFFE))

/-! ### The mapper (R80 to R91) -/

/-- The ROM bank the lower window reads (R85). -/
def lowerBank (s : State) : Nat :=
  match s.mode with
  | .simple => 0
  | .advanced => (s.secondary.toNat <<< 5) &&& s.cart.bankMask

/-- The ROM bank the upper window reads (R86). -/
def upperBank (s : State) : Nat := ((s.secondary.toNat <<< 5) ||| s.primary.toNat) &&& s.cart.bankMask

/-- The offset in the ROM image of an address in 0x0000 to 0x7FFF (R85 to R87; R91 for a ROM-only cartridge). -/
def romOffset (addr : Word) (s : State) : Nat :=
  match s.cart.kind with
  | .romOnly => addr.toNat
  | .mbc1 =>
    if addr.toNat ≤ 0x3FFF then lowerBank s * 0x4000 + addr.toNat
    else upperBank s * 0x4000 + (addr.toNat - 0x4000)

/-- The RAM bank in the window 0xA000 to 0xBFFF (R84, R88). -/
def ramBank (s : State) : Nat :=
  match s.mode with
  | .simple => 0
  | .advanced => s.secondary.toNat &&& s.cart.ramMask

/-- The offset in the cartridge RAM of an address in 0xA000 to 0xBFFF (R84, R88). -/
def cartRamOffset (addr : Word) (s : State) : Nat := ramBank s * 0x2000 + (addr.toNat - 0xA000)

/-- The RAM window serves accesses: an MBC1 cartridge with RAM, and RAM enabled (R84, R88, R91). -/
def ramOpen (s : State) : Bool := decide (s.cart.kind = .mbc1) && decide (0 < s.cart.ramSize.bytes) && s.ramEnabled

/-- Mapper read (R85, R86, R88, R91), for 0x0000 to 0x7FFF and 0xA000 to 0xBFFF. -/
def mapperRead (addr : Word) (s : State) : Byte :=
  if addr.toNat ≤ 0x7FFF then s.cart.rom.read (romOffset addr s)
  else if ramOpen s then s.cartRam.read (cartRamOffset addr s)
  else 0xFF

/-- A write to the MBC1 registers, 0x0000 to 0x7FFF (R80 to R83). -/
def mbc1Write (addr : Word) (v : Byte) (s : State) : State :=
  if addr.toNat ≤ 0x1FFF then { s with ramEnabled := decide (v &&& 0x0F = 0x0A) }
  else if addr.toNat ≤ 0x3FFF then
    { s with primary := if v.extractLsb' 0 5 = 0 then 1 else v.extractLsb' 0 5 }
  else if addr.toNat ≤ 0x5FFF then { s with secondary := v.extractLsb' 0 2 }
  else { s with mode := if v.getLsbD 0 then .advanced else .simple }

/-- Mapper write (R80 to R84, R91): a register, a byte of open cartridge RAM, or nothing. -/
def mapperWrite (addr : Word) (v : Byte) (s : State) : State :=
  if addr.toNat ≤ 0x7FFF then
    match s.cart.kind with
    | .romOnly => s
    | .mbc1 => mbc1Write addr v s
  else if ramOpen s then { s with cartRam := s.cartRam.write (cartRamOffset addr s) v }
  else s

/-! ### The I/O block (R70) -/

/-- IoRead under IO_READ_MODEL = Storage. -/
def ioRead (addr : Word) (s : State) : Byte :=
  if addr = 0xFF04 then hiByte s.divider
  else if addr = 0xFF05 then s.tima
  else if addr = 0xFF06 then s.tma
  else if addr = 0xFF07 then s.tac
  else if addr = 0xFF0F then s.ifr
  else s.mem.read addr.toNat

/-- IoWrite. -/
def ioWrite (addr : Word) (v : Byte) (s : State) : State :=
  if addr = 0xFF04 then { s with divider := 0 }
  else if addr = 0xFF05 then { s with tima := v }
  else if addr = 0xFF06 then { s with tma := v }
  else if addr = 0xFF07 then { s with tac := v }
  else if addr = 0xFF0F then { s with ifr := v }
  else { s with mem := s.mem.write addr.toNat v }

/-! ### The Bus (R62, R63) -/

/-- The byte the block holds at an address: what a read gives (R62) where no draw decides it. -/
def stored (addr : Word) (s : State) : Byte :=
  if addr.toNat ≤ 0x7FFF then mapperRead addr s
  else if addr.toNat ≤ 0x9FFF then s.mem.read addr.toNat
  else if addr.toNat ≤ 0xBFFF then mapperRead addr s
  else if addr.toNat ≤ 0xDFFF then s.mem.read addr.toNat
  else if addr.toNat ≤ 0xFEFF then 0xFF
  else if addr.toNat ≤ 0xFF7F then ioRead addr s
  else if addr.toNat ≤ 0xFFFE then s.mem.read addr.toNat
  else s.ie

/-- A read of this address draws its byte (R70 under IO_READ_MODEL = Draw). -/
def drawn (addr : Word) (s : State) : Bool := decide (s.cfg.ioReadModel = .draw) && isDeviceIo addr

/-- An access to this address raises Unmodelled (R66 under UNMAPPED_POLICY = Fault). -/
def faulting (addr : Word) (s : State) : Bool := decide (s.cfg.unmappedPolicy = .fault) && isUnmapped addr

/-- The byte a read gives (R62). -/
def readByte (addr : Word) (s : State) : Byte :=
  if drawn addr s then Config.drawnByte s.draws else stored addr s

/-- The state after a read: unchanged (R62, R75) but for the model's own count of the draws (log 12). -/
def afterRead (addr : Word) (s : State) : State :=
  if drawn addr s then { s with draws := s.draws + 1 } else s

/-- What a write does (R63). -/
def store (addr : Word) (v : Byte) (s : State) : State :=
  if addr.toNat ≤ 0x7FFF then mapperWrite addr v s
  else if addr.toNat ≤ 0x9FFF then { s with mem := s.mem.write addr.toNat v }
  else if addr.toNat ≤ 0xBFFF then mapperWrite addr v s
  else if addr.toNat ≤ 0xDFFF then { s with mem := s.mem.write addr.toNat v }
  else if addr.toNat ≤ 0xFEFF then s
  else if addr.toNat ≤ 0xFF7F then ioWrite addr v s
  else if addr.toNat ≤ 0xFFFE then { s with mem := s.mem.write addr.toNat v }
  else { s with ie := v }

/-- `MemRead(addr, 1)` (00_scope.md R12): go on with the byte read. -/
def read8 (addr : Word) (s : State) (k : Byte → State → Out) : Out :=
  if faulting addr s then .fault (.unmappedAccess addr) else k (readByte addr s) (afterRead addr s)

/-- `MemWrite(addr, 1, v)` (R12). -/
def write8 (addr : Word) (v : Byte) (s : State) (k : State → Out) : Out :=
  if faulting addr s then .fault (.unmappedAccess addr) else k (store addr v s)

/-- `MemWrite(addr, 2, v)`: the low byte at `addr`, then the high byte at `addr + 1` modulo 2^16 (R64). -/
def write16 (addr v : Word) (s : State) (k : State → Out) : Out :=
  write8 addr (loByte v) s fun s => write8 (addr + 1) (hiByte v) s k

/-- Put a byte where a read of `addr` finds it, the ROM image included: not a write of the CPU but a load from outside
(log 15). Open bus and a closed RAM window have no byte to put. -/
def poke (addr : Word) (v : Byte) (s : State) : State :=
  if addr.toNat ≤ 0x7FFF then
    { s with cart := { s.cart with rom := s.cart.rom.write (romOffset addr s) v } }
  else if addr = 0xFF04 then { s with divider := wordOf v (loByte s.divider) }
  else store addr v s

end Sys2Proof.Machine
end

