-- ==== Sys2Proof/Machine/Flags.lean ====
section
/-! DEFINITION. The flag byte (10_state.md R22 to R25) and every computation that produces a result and flags: the arithmetic
helpers (41_alu8.md R200), the ALU operations, INC and DEC, DAA, the 16-bit adds (42_alu16.md), the rotates and shifts
(43_rotate_shift_bit.md). -/

namespace Sys2Proof.Machine

/-- `F <- (Z << 7) | (N << 6) | (H << 5) | (C << 4)` (R22, R23, R200): the low nibble is always 0. -/
def flagByte (z n h c : Bool) : Byte :=
  (if z then 0x80 else 0) ||| (if n then 0x40 else 0) ||| (if h then 0x20 else 0) ||| (if c then 0x10 else 0)

/-- F.Z (R23). -/
def flagZ (s : State) : Bool := s.f.getLsbD 7
/-- F.N (R23). -/
def flagN (s : State) : Bool := s.f.getLsbD 6
/-- F.H (R23). -/
def flagH (s : State) : Bool := s.f.getLsbD 5
/-- F.C (R23). -/
def flagC (s : State) : Bool := s.f.getLsbD 4

/-- A read of F: its low nibble is 0 (R22). -/
def readF (s : State) : Byte := s.f &&& 0xF0

/-- `setF` (R200). -/
def setF (z n h c : Bool) (s : State) : State := { s with f := flagByte z n h c }

/-- A result and its four flags. -/
structure AluOut where
  res : Byte
  z   : Bool
  n   : Bool
  h   : Bool
  c   : Bool
deriving DecidableEq, Repr

/-- add8 (R200): the sum on unbounded integers, H from bit 3, C from bit 7, the carry-in counted in both. -/
def add8 (a b : Byte) (cin : Bool) : AluOut :=
  let sum := a.toNat + b.toNat + bitNat cin
  let res := BitVec.ofNat 8 sum
  { res := res, z := res == 0, n := false,
    h := decide (a.toNat % 16 + b.toNat % 16 + bitNat cin > 0x0F), c := decide (sum > 0xFF) }

/-- sub8 (R200): the difference on unbounded integers, H and C the borrows out of bits 3 and 7. -/
def sub8 (a b : Byte) (cin : Bool) : AluOut :=
  let res := BitVec.ofInt 8 ((a.toNat : Int) - b.toNat - bitNat cin)
  { res := res, z := res == 0, n := true,
    h := decide (a.toNat % 16 < b.toNat % 16 + bitNat cin), c := decide (a.toNat < b.toNat + bitNat cin) }

/-- A logic result: Z from the result, N = 0, C = 0, H as given (R209 to R214). -/
def logic8 (res : Byte) (h : Bool) : AluOut := { res := res, z := res == 0, n := false, h := h, c := false }

/-- The eight ALU operations (R201 to R216) of A = `a` with operand `v` and carry-in `cin`. -/
def aluCompute (op : AluOp) (a v : Byte) (cin : Bool) : AluOut :=
  match op with
  | .add => add8 a v false
  | .adc => add8 a v cin
  | .sub => sub8 a v false
  | .sbc => sub8 a v cin
  | .and => logic8 (a &&& v) true
  | .xor => logic8 (a ^^^ v) false
  | .or  => logic8 (a ||| v) false
  | .cp  => sub8 a v false

/-- An ALU operation on A: the result goes to A, except that CP discards it (R215), and all four flags are written. -/
def aluApply (op : AluOp) (v : Byte) (s : State) : State :=
  let r := aluCompute op s.a v (flagC s)
  { s with
    a := match op with
      | .cp => s.a
      | _ => r.res
    f := flagByte r.z r.n r.h r.c }

/-- INC of a byte (R217, R218): C is kept. -/
def inc8 (old : Byte) (c : Bool) : AluOut :=
  { res := old + 1, z := old + 1 == 0, n := false, h := old &&& 0x0F == 0x0F, c := c }

/-- DEC of a byte (R219, R220): C is kept. -/
def dec8 (old : Byte) (c : Bool) : AluOut :=
  { res := old - 1, z := old - 1 == 0, n := true, h := old &&& 0x0F == 0x00, c := c }

/-- DAA (R221): both tests of the addition case read A as it was before; N is kept, H cleared. -/
def daaCompute (a : Byte) (n h c : Bool) : AluOut :=
  if n then
    let r := BitVec.ofInt 8 ((a.toNat : Int) - (if c then 0x60 else 0) - (if h then 0x06 else 0))
    { res := r, z := r == 0, n := true, h := false, c := c }
  else
    let high := c || decide (a.toNat > 0x99)
    let low := h || decide (a.toNat % 16 > 0x09)
    let r := BitVec.ofNat 8 (a.toNat + (if high then 0x60 else 0) + (if low then 0x06 else 0))
    { res := r, z := r == 0, n := false, h := false, c := high }

/-- ADD HL,rr (R240): H from bit 11, C from bit 15. -/
def add16H (a v : Word) : Bool := decide (a.toNat % 0x1000 + v.toNat % 0x1000 > 0x0FFF)
/-- ADD HL,rr (R240): C from bit 15. -/
def add16C (a v : Word) : Bool := decide (a.toNat + v.toNat > 0xFFFF)

/-- The signed-displacement sum `SP + sext_16(e)` (R243, R244). -/
def spPlus (e : Byte) (s : State) : Word := s.sp + sext16 e

/-- The flags of the signed-displacement forms: Z = 0, N = 0, H and C from the unsigned low-byte addition (R243, C5). -/
def spPlusFlags (e : Byte) (s : State) : Byte :=
  flagByte false false (decide (s.sp.toNat % 16 + e.toNat % 16 > 0x0F)) (decide (s.sp.toNat % 256 + e.toNat > 0xFF))

/-- The result and carry of a rotate, shift or SWAP of `v` with carry-in `cin` (R260 to R271). -/
def shiftCompute (op : ShiftOp) (v : Byte) (cin : Bool) : Byte × Bool :=
  match op with
  | .rlc  => ((v <<< 1) ||| (if v.getLsbD 7 then 0x01 else 0), v.getLsbD 7)
  | .rrc  => ((v >>> 1) ||| (if v.getLsbD 0 then 0x80 else 0), v.getLsbD 0)
  | .rl   => ((v <<< 1) ||| (if cin then 0x01 else 0), v.getLsbD 7)
  | .rr   => ((v >>> 1) ||| (if cin then 0x80 else 0), v.getLsbD 0)
  | .sla  => (v <<< 1, v.getLsbD 7)
  | .sra  => ((v >>> 1) ||| (v &&& 0x80), v.getLsbD 0)
  | .swap => ((v <<< 4) ||| (v >>> 4), false)
  | .srl  => (v >>> 1, v.getLsbD 0)

/-- An accumulator rotate (R260 to R263): Z, N and H are forced to 0. -/
def rotateA (op : ShiftOp) (s : State) : State :=
  let r := shiftCompute op s.a (flagC s)
  { s with a := r.1, f := flagByte false false false r.2 }

end Sys2Proof.Machine
end

