-- ==== Sys2Proof/Machine/Operands.lean ====
section
/-! DEFINITION. The operand forms: 8-bit operands by register code, code 6 being the byte at HL (30_encoding.md R124),
register pairs (R125, R126; 10_state.md R21) and conditions (R127). -/

namespace Sys2Proof.Machine

/-- BC (R21). -/
def regBC (s : State) : Word := wordOf s.b s.c
/-- DE (R21). -/
def regDE (s : State) : Word := wordOf s.d s.e
/-- HL (R21). -/
def regHL (s : State) : Word := wordOf s.h s.l
/-- AF (R21, R22). -/
def regAF (s : State) : Word := wordOf s.a (readF s)

/-- BC <- v (R21). -/
def setBC (v : Word) (s : State) : State := { s with b := hiByte v, c := loByte v }
/-- DE <- v (R21). -/
def setDE (v : Word) (s : State) : State := { s with d := hiByte v, e := loByte v }
/-- HL <- v (R21). -/
def setHL (v : Word) (s : State) : State := { s with h := hiByte v, l := loByte v }
/-- AF <- v, the low nibble of F masked to zero (R22, R182). -/
def setAF (v : Word) (s : State) : State := { s with a := hiByte v, f := loByte v &&& 0xF0 }
/-- SP <- v (R27). -/
def setSP (v : Word) (s : State) : State := { s with sp := v }
/-- PC <- v (R26). -/
def setPC (v : Word) (s : State) : State := { s with pc := v }

/-- `r8(code)` of R124: a register, or the byte at HL read through the Bus. -/
def readR8 (r : R8) (s : State) (k : Byte → State → Out) : Out :=
  match r with
  | .B => k s.b s
  | .C => k s.c s
  | .D => k s.d s
  | .E => k s.e s
  | .H => k s.h s
  | .L => k s.l s
  | .mHL => read8 (regHL s) s k
  | .A => k s.a s

/-- `w8(code, v)` of R124: a register, or the byte at HL written through the Bus. -/
def writeR8 (r : R8) (v : Byte) (s : State) (k : State → Out) : Out :=
  match r with
  | .B => k { s with b := v }
  | .C => k { s with c := v }
  | .D => k { s with d := v }
  | .E => k { s with e := v }
  | .H => k { s with h := v }
  | .L => k { s with l := v }
  | .mHL => write8 (regHL s) v s k
  | .A => k { s with a := v }

/-- `r16(rr)` of R125. -/
def readR16 (r : R16) (s : State) : Word :=
  match r with
  | .BC => regBC s
  | .DE => regDE s
  | .HL => regHL s
  | .SP => s.sp

/-- `w16(rr, v)` of R125. -/
def writeR16 (r : R16) (v : Word) (s : State) : State :=
  match r with
  | .BC => setBC v s
  | .DE => setDE v s
  | .HL => setHL v s
  | .SP => setSP v s

/-- `r16stk(rr)` of R126. -/
def readStk (r : R16Stk) (s : State) : Word :=
  match r with
  | .BC => regBC s
  | .DE => regDE s
  | .HL => regHL s
  | .AF => regAF s

/-- `w16stk(rr, v)` of R126. -/
def writeStk (r : R16Stk) (v : Word) (s : State) : State :=
  match r with
  | .BC => setBC v s
  | .DE => setDE v s
  | .HL => setHL v s
  | .AF => setAF v s

/-- `cond(cc)` of R127. -/
def cond (cc : Cond) (s : State) : Bool :=
  match cc with
  | .NZ => !flagZ s
  | .Z => flagZ s
  | .NC => !flagC s
  | .C => flagC s

end Sys2Proof.Machine
end

