-- ==== Sys2Proof/Machine/Ops.lean ====
section
/-! DEFINITION. The operations instructions and the Step share: cycle costs, the instruction stream and the stack
(00_scope.md R13), taking an interrupt and returning from one (60_exceptions.md R372, 44_control.md R309), and what each
instruction shape does (40_load.md to 45_system.md). -/

namespace Sys2Proof.Machine

/-! ### Cycle costs (70_reset_and_hazards.md R440) -/

/-- The base cost of a slot whose default is `dflt`. -/
def baseCost (slot : Slot) (dflt : Nat) (cfg : Config) : Nat :=
  match cfg.cycleCost.find? fun e => decide (e.slot = slot) with
  | some e => e.base
  | none => dflt

/-- The cost of a taken branch of a slot whose default is `dflt`. -/
def takenCost (slot : Slot) (dflt : Nat) (cfg : Config) : Nat :=
  match cfg.cycleCost.find? fun e => decide (e.slot = slot) with
  | some e => e.taken
  | none => dflt

/-- The Step will return this slot's base cost. -/
def charge (slot : Slot) (dflt : Nat) (s : State) : State := { s with cycles := baseCost slot dflt s.cfg }

/-- The Step will return this slot's taken cost. -/
def chargeTaken (slot : Slot) (dflt : Nat) (s : State) : State := { s with cycles := takenCost slot dflt s.cfg }

/-! ### The instruction stream and the stack (R13) -/

/-- `fetch8()` (R13). -/
def fetch8 (s : State) (k : Byte → State → Out) : Out :=
  read8 s.pc s fun v s => k v (setPC (s.pc + 1) s)

/-- The opcode fetch of R121; under HALT_BUG_MODE = RepeatNextByte a pending HALT bug makes it leave PC (R333). -/
def fetchOpcode (s : State) (k : Byte → State → Out) : Out :=
  if s.haltBugPending && decide (s.cfg.haltBugMode = .repeatNextByte) then
    read8 s.pc s fun v s => k v { s with haltBugPending := false }
  else fetch8 s k

/-- Fetch one instruction (R121): the opcode byte, then as many more bytes as its length says (R120, R132), with PC after
the last. -/
def fetchInstr (s : State) (k : Instr → State → Out) : Out :=
  fetchOpcode s fun op s =>
    match lengthOf op with
    | .one => k (decodeBytes op 0 0) s
    | .two => fetch8 s fun b1 s => k (decodeBytes op b1 0) s
    | .three => fetch8 s fun b1 s => fetch8 s fun b2 s => k (decodeBytes op b1 b2) s

/-- `push16(v)` (R13): SP down by 2, then the low byte and the high byte (R64). -/
def push16 (v : Word) (s : State) (k : State → Out) : Out :=
  write16 (s.sp - 2) v (setSP (s.sp - 2) s) k

/-- `pop16()` (R13): the low byte at SP, SP up by 1, the high byte, SP up by 1. -/
def pop16 (s : State) (k : Word → State → Out) : Out :=
  read8 s.sp s fun lo s =>
    let s := setSP (s.sp + 1) s
    read8 s.sp s fun hi s => k (wordOf hi lo) (setSP (s.sp + 1) s)

/-! ### Interrupts (60_exceptions.md R370 to R379) -/

/-- The five interrupt sources (R374). -/
inductive IrqSource
  | vblank
  | lcd
  | timer
  | serial
  | joypad
deriving DecidableEq, Repr

/-- The IF/IE bit of a source (R374). -/
def irqBit : IrqSource → Nat
  | .vblank => 0
  | .lcd => 1
  | .timer => 2
  | .serial => 3
  | .joypad => 4

/-- `pending = IE & IF & 0x1F` (R16, R370). -/
def pending (s : State) : Byte := s.ie &&& s.ifr &&& 0x1F

/-- The lowest set bit of `pending` (R373). -/
def topRequest (s : State) : Option IrqSource :=
  if (pending s).getLsbD 0 then some .vblank
  else if (pending s).getLsbD 1 then some .lcd
  else if (pending s).getLsbD 2 then some .timer
  else if (pending s).getLsbD 3 then some .serial
  else if (pending s).getLsbD 4 then some .joypad
  else none

/-- The vector of a source: `0x0040 + 8 * i` (R370, R374). -/
def vector (i : IrqSource) : Word := BitVec.ofNat 16 (0x0040 + 8 * irqBit i)

/-- Take an interrupt (R372): its IF bit and IME are cleared, PC is pushed, PC becomes the vector, and the Step costs 5.
Nothing else is saved (R376). -/
def takeInterrupt (i : IrqSource) (s : State) : Out :=
  push16 s.pc { s with ifr := s.ifr &&& ~~~(BitVec.twoPow 8 (irqBit i)), ime := false, cycles := 5 } fun s =>
    .next (setPC (vector i) s)

/-- Return from an interrupt (R309, R377): PC is popped and IME set at once. -/
def returnFromInterrupt (s : State) : Out := pop16 s fun v s => .next { s with pc := v, ime := true }

/-! ### Loads, stores, stack (40_load.md) -/

/-- `w8(ddd, r8(sss))` (R160 to R162). -/
def copyR8 (d r : R8) (s : State) : Out := readR8 r s fun v s => writeR8 d v s .next

/-- `w8(ddd, n)` (R163, R164). -/
def loadImm8 (d : R8) (n : Byte) (s : State) : Out := writeR8 d n s .next

/-- `A <- MemRead(addr, 1)` (R165, R166, R169, R171, R173). -/
def loadA (addr : Word) (s : State) : Out := read8 addr s fun v s => .next { s with a := v }

/-- `MemWrite(addr, 1, A)` (R167, R168, R170, R172, R174). -/
def storeA (addr : Word) (s : State) : Out := write8 addr s.a s .next

/-- `MemWrite(HL, 1, A)`, then HL moves by `delta` (R175, R177). -/
def storeAThenHL (delta : Word) (s : State) : Out :=
  write8 (regHL s) s.a s fun s => .next (setHL (regHL s + delta) s)

/-- `A <- MemRead(HL, 1)`, then HL moves by `delta` (R176, R178). -/
def loadAThenHL (delta : Word) (s : State) : Out :=
  read8 (regHL s) s fun v s => .next (setHL (regHL s + delta) { s with a := v })

/-- `w16(rr, nn)` (R179). -/
def loadImm16 (r : R16) (nn : Word) (s : State) : Out := .next (writeR16 r nn s)

/-- `MemWrite(nn, 2, SP)` (R180). -/
def storeSP (nn : Word) (s : State) : Out := write16 nn s.sp s .next

/-- PUSH rr (R181). -/
def pushPair (r : R16Stk) (s : State) : Out := push16 (readStk r s) s .next

/-- POP rr (R182). -/
def popPair (r : R16Stk) (s : State) : Out := pop16 s fun v s => .next (writeStk r v s)

/-! ### Arithmetic (41_alu8.md, 42_alu16.md) -/

/-- An ALU operation with an 8-bit operand (R201 to R215, odd rules). -/
def aluR8 (op : AluOp) (r : R8) (s : State) : Out := readR8 r s fun v s => .next (aluApply op v s)

/-- An ALU operation with an immediate (R202 to R216, even rules). -/
def aluImm (op : AluOp) (n : Byte) (s : State) : Out := .next (aluApply op n s)

/-- Write back a computed byte and its flags (R217 to R220, R264 to R271). -/
def writeBack (r : R8) (o : AluOut) (s : State) : Out :=
  writeR8 r o.res s fun s => .next (setF o.z o.n o.h o.c s)

/-- INC (R217, R218). -/
def incR8 (r : R8) (s : State) : Out := readR8 r s fun v s => writeBack r (inc8 v (flagC s)) s

/-- DEC (R219, R220). -/
def decR8 (r : R8) (s : State) : Out := readR8 r s fun v s => writeBack r (dec8 v (flagC s)) s

/-- DAA (R221). -/
def daa (s : State) : Out :=
  let o := daaCompute s.a (flagN s) (flagH s) (flagC s)
  .next { s with a := o.res, f := flagByte o.z (flagN s) o.h o.c }

/-- CPL (R222). -/
def cpl (s : State) : Out := .next { s with a := s.a ^^^ 0xFF, f := flagByte (flagZ s) true true (flagC s) }

/-- SCF (R223). -/
def scf (s : State) : Out := .next (setF (flagZ s) false false true s)

/-- CCF (R224). -/
def ccf (s : State) : Out := .next (setF (flagZ s) false false (!flagC s) s)

/-- ADD HL,rr (R240): Z is kept. -/
def addHL (r : R16) (s : State) : Out :=
  let v := readR16 r s
  .next (setHL (regHL s + v) (setF (flagZ s) false (add16H (regHL s) v) (add16C (regHL s) v) s))

/-- INC rr (R241). -/
def incR16 (r : R16) (s : State) : Out := .next (writeR16 r (readR16 r s + 1) s)

/-- DEC rr (R242). -/
def decR16 (r : R16) (s : State) : Out := .next (writeR16 r (readR16 r s - 1) s)

/-- ADD SP,i8 (R243). -/
def addSP (e : Byte) (s : State) : Out := .next { s with sp := spPlus e s, f := spPlusFlags e s }

/-- LD HL,SP+i8 (R244). -/
def loadHLSP (e : Byte) (s : State) : Out := .next (setHL (spPlus e s) { s with f := spPlusFlags e s })

/-! ### Rotates, shifts, bits (43_rotate_shift_bit.md) -/

/-- The result and flags of a CB rotate, shift or SWAP (R264 to R271): Z from the result. -/
def cbShiftOut (op : ShiftOp) (v : Byte) (cin : Bool) : AluOut :=
  let r := shiftCompute op v cin
  { res := r.1, z := r.1 == 0, n := false, h := false, c := r.2 }

/-- A CB rotate, shift or SWAP (R264 to R271). -/
def cbShift (op : ShiftOp) (r : R8) (s : State) : Out :=
  readR8 r s fun v s => writeBack r (cbShiftOut op v (flagC s)) s

/-- BIT b,r (R272): nothing is written back. -/
def cbBit (b : Idx8) (r : R8) (s : State) : Out :=
  readR8 r s fun v s => .next (setF (!v.getLsbD b.toNat) false true (flagC s) s)

/-- RES b,r (R273): written back even when the bit is 0 already. -/
def cbRes (b : Idx8) (r : R8) (s : State) : Out :=
  readR8 r s fun v s => writeR8 r (v &&& ~~~(BitVec.twoPow 8 b.toNat)) s .next

/-- SET b,r (R274): written back even when the bit is 1 already. -/
def cbSet (b : Idx8) (r : R8) (s : State) : Out :=
  readR8 r s fun v s => writeR8 r (v ||| BitVec.twoPow 8 b.toNat) s .next

/-! ### Control transfer (44_control.md) -/

/-- `PC <- nn` (R300, R302). -/
def jump (nn : Word) (s : State) : Out := .next (setPC nn s)

/-- `PC <- PC + sext_16(e)`, PC being the address after the displacement (R303). -/
def jumpRel (e : Byte) (s : State) : Out := .next (setPC (s.pc + sext16 e) s)

/-- `push16(PC); PC <- nn` (R305, R310). -/
def call (nn : Word) (s : State) : Out := push16 s.pc s fun s => .next (setPC nn s)

/-- `PC <- pop16()` (R307). -/
def ret (s : State) : Out := pop16 s fun v s => .next (setPC v s)

/-- A conditional form: the taken branch at the taken cost, else only the base cost (R301, R304, R306, R308). -/
def branchIf (cc : Cond) (slot : Slot) (base taken : Nat) (s : State) (k : State → Out) : Out :=
  if cond cc s then k (chargeTaken slot taken s) else .next (charge slot base s)

/-- RST t: call `ttt * 8` (R310). -/
def restart (t : Idx8) (s : State) : Out := call (BitVec.ofNat 16 (t.toNat * 8)) s

/-! ### System (45_system.md) -/

/-- NOP and the unused opcodes (R330, R338): nothing beyond the fetch. -/
def noOp (s : State) : Out := .next s

/-- STOP (R331): its second byte, already fetched, is discarded. Under STOP_MODE = Stuck there is no next state (log 10). -/
def stop (_n : Byte) (s : State) : Out :=
  match s.cfg.stopMode with
  | .halt => .next { s with halted := true }
  | .noOp => .next s
  | .stuck => .fault .stoppedForEver

/-- HALT (R332): the HALT bug when IME = 0 and a request is pending, else halted. -/
def halt (s : State) : Out :=
  if !s.ime && pending s != 0 then
    match s.cfg.haltBugMode with
    | .rewind => .next { s with halted := false, pc := s.pc - 1 }
    | .repeatNextByte => .next { s with halted := false, haltBugPending := true }
  else .next { s with halted := true }

/-- DI (R336): under EI_DELAY = 1 it also cancels a pending enable. -/
def disableInterrupts (s : State) : Out :=
  match s.cfg.eiDelay with
  | .none => .next { s with ime := false }
  | .oneInstruction => .next { s with ime := false, eiPending := false }

/-- EI (R337): at once, or after one more instruction; with IME already 1 it changes nothing (the rule's corner case, log 11). -/
def enableInterrupts (s : State) : Out :=
  match s.cfg.eiDelay with
  | .none => .next { s with ime := true }
  | .oneInstruction => .next { s with eiPending := s.eiPending || !s.ime }

end Sys2Proof.Machine
end

