-- ==== Sys2Proof/Machine/Alu16.lean ====
section
/-! DEFINITION. 16-bit arithmetic (42_alu16.md R240 to R244): one meaning per row of the opcode table, run after the fetch has moved PC past the
instruction; each charges its own cycle cost (R132, R440). -/

namespace Sys2Proof.Machine

/-- INC BC (R241) -/
def execInc_BC (s : State) : Out := incR16 .BC (charge (.base 0x03) 2 s)

/-- ADD HL,BC (R240) -/
def execAdd_HL_BC (s : State) : Out := addHL .BC (charge (.base 0x09) 2 s)

/-- DEC BC (R242) -/
def execDec_BC (s : State) : Out := decR16 .BC (charge (.base 0x0B) 2 s)

/-- INC DE (R241) -/
def execInc_DE (s : State) : Out := incR16 .DE (charge (.base 0x13) 2 s)

/-- ADD HL,DE (R240) -/
def execAdd_HL_DE (s : State) : Out := addHL .DE (charge (.base 0x19) 2 s)

/-- DEC DE (R242) -/
def execDec_DE (s : State) : Out := decR16 .DE (charge (.base 0x1B) 2 s)

/-- INC HL (R241) -/
def execInc_HL (s : State) : Out := incR16 .HL (charge (.base 0x23) 2 s)

/-- ADD HL,HL (R240) -/
def execAdd_HL_HL (s : State) : Out := addHL .HL (charge (.base 0x29) 2 s)

/-- DEC HL (R242) -/
def execDec_HL (s : State) : Out := decR16 .HL (charge (.base 0x2B) 2 s)

/-- INC SP (R241) -/
def execInc_SP (s : State) : Out := incR16 .SP (charge (.base 0x33) 2 s)

/-- ADD HL,SP (R240) -/
def execAdd_HL_SP (s : State) : Out := addHL .SP (charge (.base 0x39) 2 s)

/-- DEC SP (R242) -/
def execDec_SP (s : State) : Out := decR16 .SP (charge (.base 0x3B) 2 s)

/-- ADD SP,i8 (R243) -/
def execAdd_SP_i8 (e : Byte) (s : State) : Out := addSP e (charge (.base 0xE8) 4 s)

/-- LD HL,SP+i8 (R244) -/
def execLd_HL_SPi8 (e : Byte) (s : State) : Out := loadHLSP e (charge (.base 0xF8) 3 s)

end Sys2Proof.Machine
end

