-- ==== Sys2Proof/Machine/Alu8.lean ====
section
/-! DEFINITION. 8-bit arithmetic and logic (41_alu8.md R201 to R224): one meaning per row of the opcode table, run after the fetch has moved PC past the
instruction; each charges its own cycle cost (R132, R440). -/

namespace Sys2Proof.Machine

/-- INC B (R217) -/
def execInc_B (s : State) : Out := incR8 .B (charge (.base 0x04) 1 s)

/-- DEC B (R219) -/
def execDec_B (s : State) : Out := decR8 .B (charge (.base 0x05) 1 s)

/-- INC C (R217) -/
def execInc_C (s : State) : Out := incR8 .C (charge (.base 0x0C) 1 s)

/-- DEC C (R219) -/
def execDec_C (s : State) : Out := decR8 .C (charge (.base 0x0D) 1 s)

/-- INC D (R217) -/
def execInc_D (s : State) : Out := incR8 .D (charge (.base 0x14) 1 s)

/-- DEC D (R219) -/
def execDec_D (s : State) : Out := decR8 .D (charge (.base 0x15) 1 s)

/-- INC E (R217) -/
def execInc_E (s : State) : Out := incR8 .E (charge (.base 0x1C) 1 s)

/-- DEC E (R219) -/
def execDec_E (s : State) : Out := decR8 .E (charge (.base 0x1D) 1 s)

/-- INC H (R217) -/
def execInc_H (s : State) : Out := incR8 .H (charge (.base 0x24) 1 s)

/-- DEC H (R219) -/
def execDec_H (s : State) : Out := decR8 .H (charge (.base 0x25) 1 s)

/-- DAA (R221) -/
def execDaa (s : State) : Out := daa (charge (.base 0x27) 1 s)

/-- INC L (R217) -/
def execInc_L (s : State) : Out := incR8 .L (charge (.base 0x2C) 1 s)

/-- DEC L (R219) -/
def execDec_L (s : State) : Out := decR8 .L (charge (.base 0x2D) 1 s)

/-- CPL (R222) -/
def execCpl (s : State) : Out := cpl (charge (.base 0x2F) 1 s)

/-- INC (HL) (R218) -/
def execInc_mHL (s : State) : Out := incR8 .mHL (charge (.base 0x34) 3 s)

/-- DEC (HL) (R220) -/
def execDec_mHL (s : State) : Out := decR8 .mHL (charge (.base 0x35) 3 s)

/-- SCF (R223) -/
def execScf (s : State) : Out := scf (charge (.base 0x37) 1 s)

/-- INC A (R217) -/
def execInc_A (s : State) : Out := incR8 .A (charge (.base 0x3C) 1 s)

/-- DEC A (R219) -/
def execDec_A (s : State) : Out := decR8 .A (charge (.base 0x3D) 1 s)

/-- CCF (R224) -/
def execCcf (s : State) : Out := ccf (charge (.base 0x3F) 1 s)

/-- ADD A,B (R201) -/
def execAdd_A_B (s : State) : Out := aluR8 .add .B (charge (.base 0x80) 1 s)

/-- ADD A,C (R201) -/
def execAdd_A_C (s : State) : Out := aluR8 .add .C (charge (.base 0x81) 1 s)

/-- ADD A,D (R201) -/
def execAdd_A_D (s : State) : Out := aluR8 .add .D (charge (.base 0x82) 1 s)

/-- ADD A,E (R201) -/
def execAdd_A_E (s : State) : Out := aluR8 .add .E (charge (.base 0x83) 1 s)

/-- ADD A,H (R201) -/
def execAdd_A_H (s : State) : Out := aluR8 .add .H (charge (.base 0x84) 1 s)

/-- ADD A,L (R201) -/
def execAdd_A_L (s : State) : Out := aluR8 .add .L (charge (.base 0x85) 1 s)

/-- ADD A,(HL) (R201) -/
def execAdd_A_mHL (s : State) : Out := aluR8 .add .mHL (charge (.base 0x86) 2 s)

/-- ADD A,A (R201) -/
def execAdd_A_A (s : State) : Out := aluR8 .add .A (charge (.base 0x87) 1 s)

/-- ADC A,B (R203) -/
def execAdc_A_B (s : State) : Out := aluR8 .adc .B (charge (.base 0x88) 1 s)

/-- ADC A,C (R203) -/
def execAdc_A_C (s : State) : Out := aluR8 .adc .C (charge (.base 0x89) 1 s)

/-- ADC A,D (R203) -/
def execAdc_A_D (s : State) : Out := aluR8 .adc .D (charge (.base 0x8A) 1 s)

/-- ADC A,E (R203) -/
def execAdc_A_E (s : State) : Out := aluR8 .adc .E (charge (.base 0x8B) 1 s)

/-- ADC A,H (R203) -/
def execAdc_A_H (s : State) : Out := aluR8 .adc .H (charge (.base 0x8C) 1 s)

/-- ADC A,L (R203) -/
def execAdc_A_L (s : State) : Out := aluR8 .adc .L (charge (.base 0x8D) 1 s)

/-- ADC A,(HL) (R203) -/
def execAdc_A_mHL (s : State) : Out := aluR8 .adc .mHL (charge (.base 0x8E) 2 s)

/-- ADC A,A (R203) -/
def execAdc_A_A (s : State) : Out := aluR8 .adc .A (charge (.base 0x8F) 1 s)

/-- SUB B (R205) -/
def execSub_B (s : State) : Out := aluR8 .sub .B (charge (.base 0x90) 1 s)

/-- SUB C (R205) -/
def execSub_C (s : State) : Out := aluR8 .sub .C (charge (.base 0x91) 1 s)

/-- SUB D (R205) -/
def execSub_D (s : State) : Out := aluR8 .sub .D (charge (.base 0x92) 1 s)

/-- SUB E (R205) -/
def execSub_E (s : State) : Out := aluR8 .sub .E (charge (.base 0x93) 1 s)

/-- SUB H (R205) -/
def execSub_H (s : State) : Out := aluR8 .sub .H (charge (.base 0x94) 1 s)

/-- SUB L (R205) -/
def execSub_L (s : State) : Out := aluR8 .sub .L (charge (.base 0x95) 1 s)

/-- SUB (HL) (R205) -/
def execSub_mHL (s : State) : Out := aluR8 .sub .mHL (charge (.base 0x96) 2 s)

/-- SUB A (R205) -/
def execSub_A (s : State) : Out := aluR8 .sub .A (charge (.base 0x97) 1 s)

/-- SBC A,B (R207) -/
def execSbc_A_B (s : State) : Out := aluR8 .sbc .B (charge (.base 0x98) 1 s)

/-- SBC A,C (R207) -/
def execSbc_A_C (s : State) : Out := aluR8 .sbc .C (charge (.base 0x99) 1 s)

/-- SBC A,D (R207) -/
def execSbc_A_D (s : State) : Out := aluR8 .sbc .D (charge (.base 0x9A) 1 s)

/-- SBC A,E (R207) -/
def execSbc_A_E (s : State) : Out := aluR8 .sbc .E (charge (.base 0x9B) 1 s)

/-- SBC A,H (R207) -/
def execSbc_A_H (s : State) : Out := aluR8 .sbc .H (charge (.base 0x9C) 1 s)

/-- SBC A,L (R207) -/
def execSbc_A_L (s : State) : Out := aluR8 .sbc .L (charge (.base 0x9D) 1 s)

/-- SBC A,(HL) (R207) -/
def execSbc_A_mHL (s : State) : Out := aluR8 .sbc .mHL (charge (.base 0x9E) 2 s)

/-- SBC A,A (R207) -/
def execSbc_A_A (s : State) : Out := aluR8 .sbc .A (charge (.base 0x9F) 1 s)

/-- AND B (R209) -/
def execAnd_B (s : State) : Out := aluR8 .and .B (charge (.base 0xA0) 1 s)

/-- AND C (R209) -/
def execAnd_C (s : State) : Out := aluR8 .and .C (charge (.base 0xA1) 1 s)

/-- AND D (R209) -/
def execAnd_D (s : State) : Out := aluR8 .and .D (charge (.base 0xA2) 1 s)

/-- AND E (R209) -/
def execAnd_E (s : State) : Out := aluR8 .and .E (charge (.base 0xA3) 1 s)

/-- AND H (R209) -/
def execAnd_H (s : State) : Out := aluR8 .and .H (charge (.base 0xA4) 1 s)

/-- AND L (R209) -/
def execAnd_L (s : State) : Out := aluR8 .and .L (charge (.base 0xA5) 1 s)

/-- AND (HL) (R209) -/
def execAnd_mHL (s : State) : Out := aluR8 .and .mHL (charge (.base 0xA6) 2 s)

/-- AND A (R209) -/
def execAnd_A (s : State) : Out := aluR8 .and .A (charge (.base 0xA7) 1 s)

/-- XOR B (R211) -/
def execXor_B (s : State) : Out := aluR8 .xor .B (charge (.base 0xA8) 1 s)

/-- XOR C (R211) -/
def execXor_C (s : State) : Out := aluR8 .xor .C (charge (.base 0xA9) 1 s)

/-- XOR D (R211) -/
def execXor_D (s : State) : Out := aluR8 .xor .D (charge (.base 0xAA) 1 s)

/-- XOR E (R211) -/
def execXor_E (s : State) : Out := aluR8 .xor .E (charge (.base 0xAB) 1 s)

/-- XOR H (R211) -/
def execXor_H (s : State) : Out := aluR8 .xor .H (charge (.base 0xAC) 1 s)

/-- XOR L (R211) -/
def execXor_L (s : State) : Out := aluR8 .xor .L (charge (.base 0xAD) 1 s)

/-- XOR (HL) (R211) -/
def execXor_mHL (s : State) : Out := aluR8 .xor .mHL (charge (.base 0xAE) 2 s)

/-- XOR A (R211) -/
def execXor_A (s : State) : Out := aluR8 .xor .A (charge (.base 0xAF) 1 s)

/-- OR B (R213) -/
def execOr_B (s : State) : Out := aluR8 .or .B (charge (.base 0xB0) 1 s)

/-- OR C (R213) -/
def execOr_C (s : State) : Out := aluR8 .or .C (charge (.base 0xB1) 1 s)

/-- OR D (R213) -/
def execOr_D (s : State) : Out := aluR8 .or .D (charge (.base 0xB2) 1 s)

/-- OR E (R213) -/
def execOr_E (s : State) : Out := aluR8 .or .E (charge (.base 0xB3) 1 s)

/-- OR H (R213) -/
def execOr_H (s : State) : Out := aluR8 .or .H (charge (.base 0xB4) 1 s)

/-- OR L (R213) -/
def execOr_L (s : State) : Out := aluR8 .or .L (charge (.base 0xB5) 1 s)

/-- OR (HL) (R213) -/
def execOr_mHL (s : State) : Out := aluR8 .or .mHL (charge (.base 0xB6) 2 s)

/-- OR A (R213) -/
def execOr_A (s : State) : Out := aluR8 .or .A (charge (.base 0xB7) 1 s)

/-- CP B (R215) -/
def execCp_B (s : State) : Out := aluR8 .cp .B (charge (.base 0xB8) 1 s)

/-- CP C (R215) -/
def execCp_C (s : State) : Out := aluR8 .cp .C (charge (.base 0xB9) 1 s)

/-- CP D (R215) -/
def execCp_D (s : State) : Out := aluR8 .cp .D (charge (.base 0xBA) 1 s)

/-- CP E (R215) -/
def execCp_E (s : State) : Out := aluR8 .cp .E (charge (.base 0xBB) 1 s)

/-- CP H (R215) -/
def execCp_H (s : State) : Out := aluR8 .cp .H (charge (.base 0xBC) 1 s)

/-- CP L (R215) -/
def execCp_L (s : State) : Out := aluR8 .cp .L (charge (.base 0xBD) 1 s)

/-- CP (HL) (R215) -/
def execCp_mHL (s : State) : Out := aluR8 .cp .mHL (charge (.base 0xBE) 2 s)

/-- CP A (R215) -/
def execCp_A (s : State) : Out := aluR8 .cp .A (charge (.base 0xBF) 1 s)

/-- ADD A,u8 (R202) -/
def execAdd_A_u8 (n : Byte) (s : State) : Out := aluImm .add n (charge (.base 0xC6) 2 s)

/-- ADC A,u8 (R204) -/
def execAdc_A_u8 (n : Byte) (s : State) : Out := aluImm .adc n (charge (.base 0xCE) 2 s)

/-- SUB u8 (R206) -/
def execSub_u8 (n : Byte) (s : State) : Out := aluImm .sub n (charge (.base 0xD6) 2 s)

/-- SBC A,u8 (R208) -/
def execSbc_A_u8 (n : Byte) (s : State) : Out := aluImm .sbc n (charge (.base 0xDE) 2 s)

/-- AND u8 (R210) -/
def execAnd_u8 (n : Byte) (s : State) : Out := aluImm .and n (charge (.base 0xE6) 2 s)

/-- XOR u8 (R212) -/
def execXor_u8 (n : Byte) (s : State) : Out := aluImm .xor n (charge (.base 0xEE) 2 s)

/-- OR u8 (R214) -/
def execOr_u8 (n : Byte) (s : State) : Out := aluImm .or n (charge (.base 0xF6) 2 s)

/-- CP u8 (R216) -/
def execCp_u8 (n : Byte) (s : State) : Out := aluImm .cp n (charge (.base 0xFE) 2 s)

end Sys2Proof.Machine
end

