-- ==== Sys2Proof/Machine/CbBit.lean ====
section
/-! DEFINITION. BIT (43_rotate_shift_bit.md R272): one meaning per row of the opcode table, run after the fetch has moved PC past the
instruction; each charges its own cycle cost (R132, R440). -/

namespace Sys2Proof.Machine

/-- BIT 0,B (R272) -/
def execBit_0_B (s : State) : Out := cbBit .i0 .B (charge (.cb 0x40) 2 s)

/-- BIT 0,C (R272) -/
def execBit_0_C (s : State) : Out := cbBit .i0 .C (charge (.cb 0x41) 2 s)

/-- BIT 0,D (R272) -/
def execBit_0_D (s : State) : Out := cbBit .i0 .D (charge (.cb 0x42) 2 s)

/-- BIT 0,E (R272) -/
def execBit_0_E (s : State) : Out := cbBit .i0 .E (charge (.cb 0x43) 2 s)

/-- BIT 0,H (R272) -/
def execBit_0_H (s : State) : Out := cbBit .i0 .H (charge (.cb 0x44) 2 s)

/-- BIT 0,L (R272) -/
def execBit_0_L (s : State) : Out := cbBit .i0 .L (charge (.cb 0x45) 2 s)

/-- BIT 0,(HL) (R272) -/
def execBit_0_mHL (s : State) : Out := cbBit .i0 .mHL (charge (.cb 0x46) 3 s)

/-- BIT 0,A (R272) -/
def execBit_0_A (s : State) : Out := cbBit .i0 .A (charge (.cb 0x47) 2 s)

/-- BIT 1,B (R272) -/
def execBit_1_B (s : State) : Out := cbBit .i1 .B (charge (.cb 0x48) 2 s)

/-- BIT 1,C (R272) -/
def execBit_1_C (s : State) : Out := cbBit .i1 .C (charge (.cb 0x49) 2 s)

/-- BIT 1,D (R272) -/
def execBit_1_D (s : State) : Out := cbBit .i1 .D (charge (.cb 0x4A) 2 s)

/-- BIT 1,E (R272) -/
def execBit_1_E (s : State) : Out := cbBit .i1 .E (charge (.cb 0x4B) 2 s)

/-- BIT 1,H (R272) -/
def execBit_1_H (s : State) : Out := cbBit .i1 .H (charge (.cb 0x4C) 2 s)

/-- BIT 1,L (R272) -/
def execBit_1_L (s : State) : Out := cbBit .i1 .L (charge (.cb 0x4D) 2 s)

/-- BIT 1,(HL) (R272) -/
def execBit_1_mHL (s : State) : Out := cbBit .i1 .mHL (charge (.cb 0x4E) 3 s)

/-- BIT 1,A (R272) -/
def execBit_1_A (s : State) : Out := cbBit .i1 .A (charge (.cb 0x4F) 2 s)

/-- BIT 2,B (R272) -/
def execBit_2_B (s : State) : Out := cbBit .i2 .B (charge (.cb 0x50) 2 s)

/-- BIT 2,C (R272) -/
def execBit_2_C (s : State) : Out := cbBit .i2 .C (charge (.cb 0x51) 2 s)

/-- BIT 2,D (R272) -/
def execBit_2_D (s : State) : Out := cbBit .i2 .D (charge (.cb 0x52) 2 s)

/-- BIT 2,E (R272) -/
def execBit_2_E (s : State) : Out := cbBit .i2 .E (charge (.cb 0x53) 2 s)

/-- BIT 2,H (R272) -/
def execBit_2_H (s : State) : Out := cbBit .i2 .H (charge (.cb 0x54) 2 s)

/-- BIT 2,L (R272) -/
def execBit_2_L (s : State) : Out := cbBit .i2 .L (charge (.cb 0x55) 2 s)

/-- BIT 2,(HL) (R272) -/
def execBit_2_mHL (s : State) : Out := cbBit .i2 .mHL (charge (.cb 0x56) 3 s)

/-- BIT 2,A (R272) -/
def execBit_2_A (s : State) : Out := cbBit .i2 .A (charge (.cb 0x57) 2 s)

/-- BIT 3,B (R272) -/
def execBit_3_B (s : State) : Out := cbBit .i3 .B (charge (.cb 0x58) 2 s)

/-- BIT 3,C (R272) -/
def execBit_3_C (s : State) : Out := cbBit .i3 .C (charge (.cb 0x59) 2 s)

/-- BIT 3,D (R272) -/
def execBit_3_D (s : State) : Out := cbBit .i3 .D (charge (.cb 0x5A) 2 s)

/-- BIT 3,E (R272) -/
def execBit_3_E (s : State) : Out := cbBit .i3 .E (charge (.cb 0x5B) 2 s)

/-- BIT 3,H (R272) -/
def execBit_3_H (s : State) : Out := cbBit .i3 .H (charge (.cb 0x5C) 2 s)

/-- BIT 3,L (R272) -/
def execBit_3_L (s : State) : Out := cbBit .i3 .L (charge (.cb 0x5D) 2 s)

/-- BIT 3,(HL) (R272) -/
def execBit_3_mHL (s : State) : Out := cbBit .i3 .mHL (charge (.cb 0x5E) 3 s)

/-- BIT 3,A (R272) -/
def execBit_3_A (s : State) : Out := cbBit .i3 .A (charge (.cb 0x5F) 2 s)

/-- BIT 4,B (R272) -/
def execBit_4_B (s : State) : Out := cbBit .i4 .B (charge (.cb 0x60) 2 s)

/-- BIT 4,C (R272) -/
def execBit_4_C (s : State) : Out := cbBit .i4 .C (charge (.cb 0x61) 2 s)

/-- BIT 4,D (R272) -/
def execBit_4_D (s : State) : Out := cbBit .i4 .D (charge (.cb 0x62) 2 s)

/-- BIT 4,E (R272) -/
def execBit_4_E (s : State) : Out := cbBit .i4 .E (charge (.cb 0x63) 2 s)

/-- BIT 4,H (R272) -/
def execBit_4_H (s : State) : Out := cbBit .i4 .H (charge (.cb 0x64) 2 s)

/-- BIT 4,L (R272) -/
def execBit_4_L (s : State) : Out := cbBit .i4 .L (charge (.cb 0x65) 2 s)

/-- BIT 4,(HL) (R272) -/
def execBit_4_mHL (s : State) : Out := cbBit .i4 .mHL (charge (.cb 0x66) 3 s)

/-- BIT 4,A (R272) -/
def execBit_4_A (s : State) : Out := cbBit .i4 .A (charge (.cb 0x67) 2 s)

/-- BIT 5,B (R272) -/
def execBit_5_B (s : State) : Out := cbBit .i5 .B (charge (.cb 0x68) 2 s)

/-- BIT 5,C (R272) -/
def execBit_5_C (s : State) : Out := cbBit .i5 .C (charge (.cb 0x69) 2 s)

/-- BIT 5,D (R272) -/
def execBit_5_D (s : State) : Out := cbBit .i5 .D (charge (.cb 0x6A) 2 s)

/-- BIT 5,E (R272) -/
def execBit_5_E (s : State) : Out := cbBit .i5 .E (charge (.cb 0x6B) 2 s)

/-- BIT 5,H (R272) -/
def execBit_5_H (s : State) : Out := cbBit .i5 .H (charge (.cb 0x6C) 2 s)

/-- BIT 5,L (R272) -/
def execBit_5_L (s : State) : Out := cbBit .i5 .L (charge (.cb 0x6D) 2 s)

/-- BIT 5,(HL) (R272) -/
def execBit_5_mHL (s : State) : Out := cbBit .i5 .mHL (charge (.cb 0x6E) 3 s)

/-- BIT 5,A (R272) -/
def execBit_5_A (s : State) : Out := cbBit .i5 .A (charge (.cb 0x6F) 2 s)

/-- BIT 6,B (R272) -/
def execBit_6_B (s : State) : Out := cbBit .i6 .B (charge (.cb 0x70) 2 s)

/-- BIT 6,C (R272) -/
def execBit_6_C (s : State) : Out := cbBit .i6 .C (charge (.cb 0x71) 2 s)

/-- BIT 6,D (R272) -/
def execBit_6_D (s : State) : Out := cbBit .i6 .D (charge (.cb 0x72) 2 s)

/-- BIT 6,E (R272) -/
def execBit_6_E (s : State) : Out := cbBit .i6 .E (charge (.cb 0x73) 2 s)

/-- BIT 6,H (R272) -/
def execBit_6_H (s : State) : Out := cbBit .i6 .H (charge (.cb 0x74) 2 s)

/-- BIT 6,L (R272) -/
def execBit_6_L (s : State) : Out := cbBit .i6 .L (charge (.cb 0x75) 2 s)

/-- BIT 6,(HL) (R272) -/
def execBit_6_mHL (s : State) : Out := cbBit .i6 .mHL (charge (.cb 0x76) 3 s)

/-- BIT 6,A (R272) -/
def execBit_6_A (s : State) : Out := cbBit .i6 .A (charge (.cb 0x77) 2 s)

/-- BIT 7,B (R272) -/
def execBit_7_B (s : State) : Out := cbBit .i7 .B (charge (.cb 0x78) 2 s)

/-- BIT 7,C (R272) -/
def execBit_7_C (s : State) : Out := cbBit .i7 .C (charge (.cb 0x79) 2 s)

/-- BIT 7,D (R272) -/
def execBit_7_D (s : State) : Out := cbBit .i7 .D (charge (.cb 0x7A) 2 s)

/-- BIT 7,E (R272) -/
def execBit_7_E (s : State) : Out := cbBit .i7 .E (charge (.cb 0x7B) 2 s)

/-- BIT 7,H (R272) -/
def execBit_7_H (s : State) : Out := cbBit .i7 .H (charge (.cb 0x7C) 2 s)

/-- BIT 7,L (R272) -/
def execBit_7_L (s : State) : Out := cbBit .i7 .L (charge (.cb 0x7D) 2 s)

/-- BIT 7,(HL) (R272) -/
def execBit_7_mHL (s : State) : Out := cbBit .i7 .mHL (charge (.cb 0x7E) 3 s)

/-- BIT 7,A (R272) -/
def execBit_7_A (s : State) : Out := cbBit .i7 .A (charge (.cb 0x7F) 2 s)

end Sys2Proof.Machine
end

