-- ==== Sys2Proof/Machine/CbRes.lean ====
section
/-! DEFINITION. RES (43_rotate_shift_bit.md R273): one meaning per row of the opcode table, run after the fetch has moved PC past the
instruction; each charges its own cycle cost (R132, R440). -/

namespace Sys2Proof.Machine

/-- RES 0,B (R273) -/
def execRes_0_B (s : State) : Out := cbRes .i0 .B (charge (.cb 0x80) 2 s)

/-- RES 0,C (R273) -/
def execRes_0_C (s : State) : Out := cbRes .i0 .C (charge (.cb 0x81) 2 s)

/-- RES 0,D (R273) -/
def execRes_0_D (s : State) : Out := cbRes .i0 .D (charge (.cb 0x82) 2 s)

/-- RES 0,E (R273) -/
def execRes_0_E (s : State) : Out := cbRes .i0 .E (charge (.cb 0x83) 2 s)

/-- RES 0,H (R273) -/
def execRes_0_H (s : State) : Out := cbRes .i0 .H (charge (.cb 0x84) 2 s)

/-- RES 0,L (R273) -/
def execRes_0_L (s : State) : Out := cbRes .i0 .L (charge (.cb 0x85) 2 s)

/-- RES 0,(HL) (R273) -/
def execRes_0_mHL (s : State) : Out := cbRes .i0 .mHL (charge (.cb 0x86) 4 s)

/-- RES 0,A (R273) -/
def execRes_0_A (s : State) : Out := cbRes .i0 .A (charge (.cb 0x87) 2 s)

/-- RES 1,B (R273) -/
def execRes_1_B (s : State) : Out := cbRes .i1 .B (charge (.cb 0x88) 2 s)

/-- RES 1,C (R273) -/
def execRes_1_C (s : State) : Out := cbRes .i1 .C (charge (.cb 0x89) 2 s)

/-- RES 1,D (R273) -/
def execRes_1_D (s : State) : Out := cbRes .i1 .D (charge (.cb 0x8A) 2 s)

/-- RES 1,E (R273) -/
def execRes_1_E (s : State) : Out := cbRes .i1 .E (charge (.cb 0x8B) 2 s)

/-- RES 1,H (R273) -/
def execRes_1_H (s : State) : Out := cbRes .i1 .H (charge (.cb 0x8C) 2 s)

/-- RES 1,L (R273) -/
def execRes_1_L (s : State) : Out := cbRes .i1 .L (charge (.cb 0x8D) 2 s)

/-- RES 1,(HL) (R273) -/
def execRes_1_mHL (s : State) : Out := cbRes .i1 .mHL (charge (.cb 0x8E) 4 s)

/-- RES 1,A (R273) -/
def execRes_1_A (s : State) : Out := cbRes .i1 .A (charge (.cb 0x8F) 2 s)

/-- RES 2,B (R273) -/
def execRes_2_B (s : State) : Out := cbRes .i2 .B (charge (.cb 0x90) 2 s)

/-- RES 2,C (R273) -/
def execRes_2_C (s : State) : Out := cbRes .i2 .C (charge (.cb 0x91) 2 s)

/-- RES 2,D (R273) -/
def execRes_2_D (s : State) : Out := cbRes .i2 .D (charge (.cb 0x92) 2 s)

/-- RES 2,E (R273) -/
def execRes_2_E (s : State) : Out := cbRes .i2 .E (charge (.cb 0x93) 2 s)

/-- RES 2,H (R273) -/
def execRes_2_H (s : State) : Out := cbRes .i2 .H (charge (.cb 0x94) 2 s)

/-- RES 2,L (R273) -/
def execRes_2_L (s : State) : Out := cbRes .i2 .L (charge (.cb 0x95) 2 s)

/-- RES 2,(HL) (R273) -/
def execRes_2_mHL (s : State) : Out := cbRes .i2 .mHL (charge (.cb 0x96) 4 s)

/-- RES 2,A (R273) -/
def execRes_2_A (s : State) : Out := cbRes .i2 .A (charge (.cb 0x97) 2 s)

/-- RES 3,B (R273) -/
def execRes_3_B (s : State) : Out := cbRes .i3 .B (charge (.cb 0x98) 2 s)

/-- RES 3,C (R273) -/
def execRes_3_C (s : State) : Out := cbRes .i3 .C (charge (.cb 0x99) 2 s)

/-- RES 3,D (R273) -/
def execRes_3_D (s : State) : Out := cbRes .i3 .D (charge (.cb 0x9A) 2 s)

/-- RES 3,E (R273) -/
def execRes_3_E (s : State) : Out := cbRes .i3 .E (charge (.cb 0x9B) 2 s)

/-- RES 3,H (R273) -/
def execRes_3_H (s : State) : Out := cbRes .i3 .H (charge (.cb 0x9C) 2 s)

/-- RES 3,L (R273) -/
def execRes_3_L (s : State) : Out := cbRes .i3 .L (charge (.cb 0x9D) 2 s)

/-- RES 3,(HL) (R273) -/
def execRes_3_mHL (s : State) : Out := cbRes .i3 .mHL (charge (.cb 0x9E) 4 s)

/-- RES 3,A (R273) -/
def execRes_3_A (s : State) : Out := cbRes .i3 .A (charge (.cb 0x9F) 2 s)

/-- RES 4,B (R273) -/
def execRes_4_B (s : State) : Out := cbRes .i4 .B (charge (.cb 0xA0) 2 s)

/-- RES 4,C (R273) -/
def execRes_4_C (s : State) : Out := cbRes .i4 .C (charge (.cb 0xA1) 2 s)

/-- RES 4,D (R273) -/
def execRes_4_D (s : State) : Out := cbRes .i4 .D (charge (.cb 0xA2) 2 s)

/-- RES 4,E (R273) -/
def execRes_4_E (s : State) : Out := cbRes .i4 .E (charge (.cb 0xA3) 2 s)

/-- RES 4,H (R273) -/
def execRes_4_H (s : State) : Out := cbRes .i4 .H (charge (.cb 0xA4) 2 s)

/-- RES 4,L (R273) -/
def execRes_4_L (s : State) : Out := cbRes .i4 .L (charge (.cb 0xA5) 2 s)

/-- RES 4,(HL) (R273) -/
def execRes_4_mHL (s : State) : Out := cbRes .i4 .mHL (charge (.cb 0xA6) 4 s)

/-- RES 4,A (R273) -/
def execRes_4_A (s : State) : Out := cbRes .i4 .A (charge (.cb 0xA7) 2 s)

/-- RES 5,B (R273) -/
def execRes_5_B (s : State) : Out := cbRes .i5 .B (charge (.cb 0xA8) 2 s)

/-- RES 5,C (R273) -/
def execRes_5_C (s : State) : Out := cbRes .i5 .C (charge (.cb 0xA9) 2 s)

/-- RES 5,D (R273) -/
def execRes_5_D (s : State) : Out := cbRes .i5 .D (charge (.cb 0xAA) 2 s)

/-- RES 5,E (R273) -/
def execRes_5_E (s : State) : Out := cbRes .i5 .E (charge (.cb 0xAB) 2 s)

/-- RES 5,H (R273) -/
def execRes_5_H (s : State) : Out := cbRes .i5 .H (charge (.cb 0xAC) 2 s)

/-- RES 5,L (R273) -/
def execRes_5_L (s : State) : Out := cbRes .i5 .L (charge (.cb 0xAD) 2 s)

/-- RES 5,(HL) (R273) -/
def execRes_5_mHL (s : State) : Out := cbRes .i5 .mHL (charge (.cb 0xAE) 4 s)

/-- RES 5,A (R273) -/
def execRes_5_A (s : State) : Out := cbRes .i5 .A (charge (.cb 0xAF) 2 s)

/-- RES 6,B (R273) -/
def execRes_6_B (s : State) : Out := cbRes .i6 .B (charge (.cb 0xB0) 2 s)

/-- RES 6,C (R273) -/
def execRes_6_C (s : State) : Out := cbRes .i6 .C (charge (.cb 0xB1) 2 s)

/-- RES 6,D (R273) -/
def execRes_6_D (s : State) : Out := cbRes .i6 .D (charge (.cb 0xB2) 2 s)

/-- RES 6,E (R273) -/
def execRes_6_E (s : State) : Out := cbRes .i6 .E (charge (.cb 0xB3) 2 s)

/-- RES 6,H (R273) -/
def execRes_6_H (s : State) : Out := cbRes .i6 .H (charge (.cb 0xB4) 2 s)

/-- RES 6,L (R273) -/
def execRes_6_L (s : State) : Out := cbRes .i6 .L (charge (.cb 0xB5) 2 s)

/-- RES 6,(HL) (R273) -/
def execRes_6_mHL (s : State) : Out := cbRes .i6 .mHL (charge (.cb 0xB6) 4 s)

/-- RES 6,A (R273) -/
def execRes_6_A (s : State) : Out := cbRes .i6 .A (charge (.cb 0xB7) 2 s)

/-- RES 7,B (R273) -/
def execRes_7_B (s : State) : Out := cbRes .i7 .B (charge (.cb 0xB8) 2 s)

/-- RES 7,C (R273) -/
def execRes_7_C (s : State) : Out := cbRes .i7 .C (charge (.cb 0xB9) 2 s)

/-- RES 7,D (R273) -/
def execRes_7_D (s : State) : Out := cbRes .i7 .D (charge (.cb 0xBA) 2 s)

/-- RES 7,E (R273) -/
def execRes_7_E (s : State) : Out := cbRes .i7 .E (charge (.cb 0xBB) 2 s)

/-- RES 7,H (R273) -/
def execRes_7_H (s : State) : Out := cbRes .i7 .H (charge (.cb 0xBC) 2 s)

/-- RES 7,L (R273) -/
def execRes_7_L (s : State) : Out := cbRes .i7 .L (charge (.cb 0xBD) 2 s)

/-- RES 7,(HL) (R273) -/
def execRes_7_mHL (s : State) : Out := cbRes .i7 .mHL (charge (.cb 0xBE) 4 s)

/-- RES 7,A (R273) -/
def execRes_7_A (s : State) : Out := cbRes .i7 .A (charge (.cb 0xBF) 2 s)

end Sys2Proof.Machine
end

