-- ==== Sys2Proof/Machine/CbSet.lean ====
section
/-! DEFINITION. SET (43_rotate_shift_bit.md R274): one meaning per row of the opcode table, run after the fetch has moved PC past the
instruction; each charges its own cycle cost (R132, R440). -/

namespace Sys2Proof.Machine

/-- SET 0,B (R274) -/
def execSet_0_B (s : State) : Out := cbSet .i0 .B (charge (.cb 0xC0) 2 s)

/-- SET 0,C (R274) -/
def execSet_0_C (s : State) : Out := cbSet .i0 .C (charge (.cb 0xC1) 2 s)

/-- SET 0,D (R274) -/
def execSet_0_D (s : State) : Out := cbSet .i0 .D (charge (.cb 0xC2) 2 s)

/-- SET 0,E (R274) -/
def execSet_0_E (s : State) : Out := cbSet .i0 .E (charge (.cb 0xC3) 2 s)

/-- SET 0,H (R274) -/
def execSet_0_H (s : State) : Out := cbSet .i0 .H (charge (.cb 0xC4) 2 s)

/-- SET 0,L (R274) -/
def execSet_0_L (s : State) : Out := cbSet .i0 .L (charge (.cb 0xC5) 2 s)

/-- SET 0,(HL) (R274) -/
def execSet_0_mHL (s : State) : Out := cbSet .i0 .mHL (charge (.cb 0xC6) 4 s)

/-- SET 0,A (R274) -/
def execSet_0_A (s : State) : Out := cbSet .i0 .A (charge (.cb 0xC7) 2 s)

/-- SET 1,B (R274) -/
def execSet_1_B (s : State) : Out := cbSet .i1 .B (charge (.cb 0xC8) 2 s)

/-- SET 1,C (R274) -/
def execSet_1_C (s : State) : Out := cbSet .i1 .C (charge (.cb 0xC9) 2 s)

/-- SET 1,D (R274) -/
def execSet_1_D (s : State) : Out := cbSet .i1 .D (charge (.cb 0xCA) 2 s)

/-- SET 1,E (R274) -/
def execSet_1_E (s : State) : Out := cbSet .i1 .E (charge (.cb 0xCB) 2 s)

/-- SET 1,H (R274) -/
def execSet_1_H (s : State) : Out := cbSet .i1 .H (charge (.cb 0xCC) 2 s)

/-- SET 1,L (R274) -/
def execSet_1_L (s : State) : Out := cbSet .i1 .L (charge (.cb 0xCD) 2 s)

/-- SET 1,(HL) (R274) -/
def execSet_1_mHL (s : State) : Out := cbSet .i1 .mHL (charge (.cb 0xCE) 4 s)

/-- SET 1,A (R274) -/
def execSet_1_A (s : State) : Out := cbSet .i1 .A (charge (.cb 0xCF) 2 s)

/-- SET 2,B (R274) -/
def execSet_2_B (s : State) : Out := cbSet .i2 .B (charge (.cb 0xD0) 2 s)

/-- SET 2,C (R274) -/
def execSet_2_C (s : State) : Out := cbSet .i2 .C (charge (.cb 0xD1) 2 s)

/-- SET 2,D (R274) -/
def execSet_2_D (s : State) : Out := cbSet .i2 .D (charge (.cb 0xD2) 2 s)

/-- SET 2,E (R274) -/
def execSet_2_E (s : State) : Out := cbSet .i2 .E (charge (.cb 0xD3) 2 s)

/-- SET 2,H (R274) -/
def execSet_2_H (s : State) : Out := cbSet .i2 .H (charge (.cb 0xD4) 2 s)

/-- SET 2,L (R274) -/
def execSet_2_L (s : State) : Out := cbSet .i2 .L (charge (.cb 0xD5) 2 s)

/-- SET 2,(HL) (R274) -/
def execSet_2_mHL (s : State) : Out := cbSet .i2 .mHL (charge (.cb 0xD6) 4 s)

/-- SET 2,A (R274) -/
def execSet_2_A (s : State) : Out := cbSet .i2 .A (charge (.cb 0xD7) 2 s)

/-- SET 3,B (R274) -/
def execSet_3_B (s : State) : Out := cbSet .i3 .B (charge (.cb 0xD8) 2 s)

/-- SET 3,C (R274) -/
def execSet_3_C (s : State) : Out := cbSet .i3 .C (charge (.cb 0xD9) 2 s)

/-- SET 3,D (R274) -/
def execSet_3_D (s : State) : Out := cbSet .i3 .D (charge (.cb 0xDA) 2 s)

/-- SET 3,E (R274) -/
def execSet_3_E (s : State) : Out := cbSet .i3 .E (charge (.cb 0xDB) 2 s)

/-- SET 3,H (R274) -/
def execSet_3_H (s : State) : Out := cbSet .i3 .H (charge (.cb 0xDC) 2 s)

/-- SET 3,L (R274) -/
def execSet_3_L (s : State) : Out := cbSet .i3 .L (charge (.cb 0xDD) 2 s)

/-- SET 3,(HL) (R274) -/
def execSet_3_mHL (s : State) : Out := cbSet .i3 .mHL (charge (.cb 0xDE) 4 s)

/-- SET 3,A (R274) -/
def execSet_3_A (s : State) : Out := cbSet .i3 .A (charge (.cb 0xDF) 2 s)

/-- SET 4,B (R274) -/
def execSet_4_B (s : State) : Out := cbSet .i4 .B (charge (.cb 0xE0) 2 s)

/-- SET 4,C (R274) -/
def execSet_4_C (s : State) : Out := cbSet .i4 .C (charge (.cb 0xE1) 2 s)

/-- SET 4,D (R274) -/
def execSet_4_D (s : State) : Out := cbSet .i4 .D (charge (.cb 0xE2) 2 s)

/-- SET 4,E (R274) -/
def execSet_4_E (s : State) : Out := cbSet .i4 .E (charge (.cb 0xE3) 2 s)

/-- SET 4,H (R274) -/
def execSet_4_H (s : State) : Out := cbSet .i4 .H (charge (.cb 0xE4) 2 s)

/-- SET 4,L (R274) -/
def execSet_4_L (s : State) : Out := cbSet .i4 .L (charge (.cb 0xE5) 2 s)

/-- SET 4,(HL) (R274) -/
def execSet_4_mHL (s : State) : Out := cbSet .i4 .mHL (charge (.cb 0xE6) 4 s)

/-- SET 4,A (R274) -/
def execSet_4_A (s : State) : Out := cbSet .i4 .A (charge (.cb 0xE7) 2 s)

/-- SET 5,B (R274) -/
def execSet_5_B (s : State) : Out := cbSet .i5 .B (charge (.cb 0xE8) 2 s)

/-- SET 5,C (R274) -/
def execSet_5_C (s : State) : Out := cbSet .i5 .C (charge (.cb 0xE9) 2 s)

/-- SET 5,D (R274) -/
def execSet_5_D (s : State) : Out := cbSet .i5 .D (charge (.cb 0xEA) 2 s)

/-- SET 5,E (R274) -/
def execSet_5_E (s : State) : Out := cbSet .i5 .E (charge (.cb 0xEB) 2 s)

/-- SET 5,H (R274) -/
def execSet_5_H (s : State) : Out := cbSet .i5 .H (charge (.cb 0xEC) 2 s)

/-- SET 5,L (R274) -/
def execSet_5_L (s : State) : Out := cbSet .i5 .L (charge (.cb 0xED) 2 s)

/-- SET 5,(HL) (R274) -/
def execSet_5_mHL (s : State) : Out := cbSet .i5 .mHL (charge (.cb 0xEE) 4 s)

/-- SET 5,A (R274) -/
def execSet_5_A (s : State) : Out := cbSet .i5 .A (charge (.cb 0xEF) 2 s)

/-- SET 6,B (R274) -/
def execSet_6_B (s : State) : Out := cbSet .i6 .B (charge (.cb 0xF0) 2 s)

/-- SET 6,C (R274) -/
def execSet_6_C (s : State) : Out := cbSet .i6 .C (charge (.cb 0xF1) 2 s)

/-- SET 6,D (R274) -/
def execSet_6_D (s : State) : Out := cbSet .i6 .D (charge (.cb 0xF2) 2 s)

/-- SET 6,E (R274) -/
def execSet_6_E (s : State) : Out := cbSet .i6 .E (charge (.cb 0xF3) 2 s)

/-- SET 6,H (R274) -/
def execSet_6_H (s : State) : Out := cbSet .i6 .H (charge (.cb 0xF4) 2 s)

/-- SET 6,L (R274) -/
def execSet_6_L (s : State) : Out := cbSet .i6 .L (charge (.cb 0xF5) 2 s)

/-- SET 6,(HL) (R274) -/
def execSet_6_mHL (s : State) : Out := cbSet .i6 .mHL (charge (.cb 0xF6) 4 s)

/-- SET 6,A (R274) -/
def execSet_6_A (s : State) : Out := cbSet .i6 .A (charge (.cb 0xF7) 2 s)

/-- SET 7,B (R274) -/
def execSet_7_B (s : State) : Out := cbSet .i7 .B (charge (.cb 0xF8) 2 s)

/-- SET 7,C (R274) -/
def execSet_7_C (s : State) : Out := cbSet .i7 .C (charge (.cb 0xF9) 2 s)

/-- SET 7,D (R274) -/
def execSet_7_D (s : State) : Out := cbSet .i7 .D (charge (.cb 0xFA) 2 s)

/-- SET 7,E (R274) -/
def execSet_7_E (s : State) : Out := cbSet .i7 .E (charge (.cb 0xFB) 2 s)

/-- SET 7,H (R274) -/
def execSet_7_H (s : State) : Out := cbSet .i7 .H (charge (.cb 0xFC) 2 s)

/-- SET 7,L (R274) -/
def execSet_7_L (s : State) : Out := cbSet .i7 .L (charge (.cb 0xFD) 2 s)

/-- SET 7,(HL) (R274) -/
def execSet_7_mHL (s : State) : Out := cbSet .i7 .mHL (charge (.cb 0xFE) 4 s)

/-- SET 7,A (R274) -/
def execSet_7_A (s : State) : Out := cbSet .i7 .A (charge (.cb 0xFF) 2 s)

end Sys2Proof.Machine
end

