-- ==== Sys2Proof/Machine/CbShift.lean ====
section
/-! DEFINITION. The CB rotates, shifts and SWAP (43_rotate_shift_bit.md R264 to R271): one meaning per row of the opcode table, run after the fetch has moved PC past the
instruction; each charges its own cycle cost (R132, R440). -/

namespace Sys2Proof.Machine

/-- RLC B (R264) -/
def execRlc_B (s : State) : Out := cbShift .rlc .B (charge (.cb 0x00) 2 s)

/-- RLC C (R264) -/
def execRlc_C (s : State) : Out := cbShift .rlc .C (charge (.cb 0x01) 2 s)

/-- RLC D (R264) -/
def execRlc_D (s : State) : Out := cbShift .rlc .D (charge (.cb 0x02) 2 s)

/-- RLC E (R264) -/
def execRlc_E (s : State) : Out := cbShift .rlc .E (charge (.cb 0x03) 2 s)

/-- RLC H (R264) -/
def execRlc_H (s : State) : Out := cbShift .rlc .H (charge (.cb 0x04) 2 s)

/-- RLC L (R264) -/
def execRlc_L (s : State) : Out := cbShift .rlc .L (charge (.cb 0x05) 2 s)

/-- RLC (HL) (R264) -/
def execRlc_mHL (s : State) : Out := cbShift .rlc .mHL (charge (.cb 0x06) 4 s)

/-- RLC A (R264) -/
def execRlc_A (s : State) : Out := cbShift .rlc .A (charge (.cb 0x07) 2 s)

/-- RRC B (R265) -/
def execRrc_B (s : State) : Out := cbShift .rrc .B (charge (.cb 0x08) 2 s)

/-- RRC C (R265) -/
def execRrc_C (s : State) : Out := cbShift .rrc .C (charge (.cb 0x09) 2 s)

/-- RRC D (R265) -/
def execRrc_D (s : State) : Out := cbShift .rrc .D (charge (.cb 0x0A) 2 s)

/-- RRC E (R265) -/
def execRrc_E (s : State) : Out := cbShift .rrc .E (charge (.cb 0x0B) 2 s)

/-- RRC H (R265) -/
def execRrc_H (s : State) : Out := cbShift .rrc .H (charge (.cb 0x0C) 2 s)

/-- RRC L (R265) -/
def execRrc_L (s : State) : Out := cbShift .rrc .L (charge (.cb 0x0D) 2 s)

/-- RRC (HL) (R265) -/
def execRrc_mHL (s : State) : Out := cbShift .rrc .mHL (charge (.cb 0x0E) 4 s)

/-- RRC A (R265) -/
def execRrc_A (s : State) : Out := cbShift .rrc .A (charge (.cb 0x0F) 2 s)

/-- RL B (R266) -/
def execRl_B (s : State) : Out := cbShift .rl .B (charge (.cb 0x10) 2 s)

/-- RL C (R266) -/
def execRl_C (s : State) : Out := cbShift .rl .C (charge (.cb 0x11) 2 s)

/-- RL D (R266) -/
def execRl_D (s : State) : Out := cbShift .rl .D (charge (.cb 0x12) 2 s)

/-- RL E (R266) -/
def execRl_E (s : State) : Out := cbShift .rl .E (charge (.cb 0x13) 2 s)

/-- RL H (R266) -/
def execRl_H (s : State) : Out := cbShift .rl .H (charge (.cb 0x14) 2 s)

/-- RL L (R266) -/
def execRl_L (s : State) : Out := cbShift .rl .L (charge (.cb 0x15) 2 s)

/-- RL (HL) (R266) -/
def execRl_mHL (s : State) : Out := cbShift .rl .mHL (charge (.cb 0x16) 4 s)

/-- RL A (R266) -/
def execRl_A (s : State) : Out := cbShift .rl .A (charge (.cb 0x17) 2 s)

/-- RR B (R267) -/
def execRr_B (s : State) : Out := cbShift .rr .B (charge (.cb 0x18) 2 s)

/-- RR C (R267) -/
def execRr_C (s : State) : Out := cbShift .rr .C (charge (.cb 0x19) 2 s)

/-- RR D (R267) -/
def execRr_D (s : State) : Out := cbShift .rr .D (charge (.cb 0x1A) 2 s)

/-- RR E (R267) -/
def execRr_E (s : State) : Out := cbShift .rr .E (charge (.cb 0x1B) 2 s)

/-- RR H (R267) -/
def execRr_H (s : State) : Out := cbShift .rr .H (charge (.cb 0x1C) 2 s)

/-- RR L (R267) -/
def execRr_L (s : State) : Out := cbShift .rr .L (charge (.cb 0x1D) 2 s)

/-- RR (HL) (R267) -/
def execRr_mHL (s : State) : Out := cbShift .rr .mHL (charge (.cb 0x1E) 4 s)

/-- RR A (R267) -/
def execRr_A (s : State) : Out := cbShift .rr .A (charge (.cb 0x1F) 2 s)

/-- SLA B (R268) -/
def execSla_B (s : State) : Out := cbShift .sla .B (charge (.cb 0x20) 2 s)

/-- SLA C (R268) -/
def execSla_C (s : State) : Out := cbShift .sla .C (charge (.cb 0x21) 2 s)

/-- SLA D (R268) -/
def execSla_D (s : State) : Out := cbShift .sla .D (charge (.cb 0x22) 2 s)

/-- SLA E (R268) -/
def execSla_E (s : State) : Out := cbShift .sla .E (charge (.cb 0x23) 2 s)

/-- SLA H (R268) -/
def execSla_H (s : State) : Out := cbShift .sla .H (charge (.cb 0x24) 2 s)

/-- SLA L (R268) -/
def execSla_L (s : State) : Out := cbShift .sla .L (charge (.cb 0x25) 2 s)

/-- SLA (HL) (R268) -/
def execSla_mHL (s : State) : Out := cbShift .sla .mHL (charge (.cb 0x26) 4 s)

/-- SLA A (R268) -/
def execSla_A (s : State) : Out := cbShift .sla .A (charge (.cb 0x27) 2 s)

/-- SRA B (R269) -/
def execSra_B (s : State) : Out := cbShift .sra .B (charge (.cb 0x28) 2 s)

/-- SRA C (R269) -/
def execSra_C (s : State) : Out := cbShift .sra .C (charge (.cb 0x29) 2 s)

/-- SRA D (R269) -/
def execSra_D (s : State) : Out := cbShift .sra .D (charge (.cb 0x2A) 2 s)

/-- SRA E (R269) -/
def execSra_E (s : State) : Out := cbShift .sra .E (charge (.cb 0x2B) 2 s)

/-- SRA H (R269) -/
def execSra_H (s : State) : Out := cbShift .sra .H (charge (.cb 0x2C) 2 s)

/-- SRA L (R269) -/
def execSra_L (s : State) : Out := cbShift .sra .L (charge (.cb 0x2D) 2 s)

/-- SRA (HL) (R269) -/
def execSra_mHL (s : State) : Out := cbShift .sra .mHL (charge (.cb 0x2E) 4 s)

/-- SRA A (R269) -/
def execSra_A (s : State) : Out := cbShift .sra .A (charge (.cb 0x2F) 2 s)

/-- SWAP B (R270) -/
def execSwap_B (s : State) : Out := cbShift .swap .B (charge (.cb 0x30) 2 s)

/-- SWAP C (R270) -/
def execSwap_C (s : State) : Out := cbShift .swap .C (charge (.cb 0x31) 2 s)

/-- SWAP D (R270) -/
def execSwap_D (s : State) : Out := cbShift .swap .D (charge (.cb 0x32) 2 s)

/-- SWAP E (R270) -/
def execSwap_E (s : State) : Out := cbShift .swap .E (charge (.cb 0x33) 2 s)

/-- SWAP H (R270) -/
def execSwap_H (s : State) : Out := cbShift .swap .H (charge (.cb 0x34) 2 s)

/-- SWAP L (R270) -/
def execSwap_L (s : State) : Out := cbShift .swap .L (charge (.cb 0x35) 2 s)

/-- SWAP (HL) (R270) -/
def execSwap_mHL (s : State) : Out := cbShift .swap .mHL (charge (.cb 0x36) 4 s)

/-- SWAP A (R270) -/
def execSwap_A (s : State) : Out := cbShift .swap .A (charge (.cb 0x37) 2 s)

/-- SRL B (R271) -/
def execSrl_B (s : State) : Out := cbShift .srl .B (charge (.cb 0x38) 2 s)

/-- SRL C (R271) -/
def execSrl_C (s : State) : Out := cbShift .srl .C (charge (.cb 0x39) 2 s)

/-- SRL D (R271) -/
def execSrl_D (s : State) : Out := cbShift .srl .D (charge (.cb 0x3A) 2 s)

/-- SRL E (R271) -/
def execSrl_E (s : State) : Out := cbShift .srl .E (charge (.cb 0x3B) 2 s)

/-- SRL H (R271) -/
def execSrl_H (s : State) : Out := cbShift .srl .H (charge (.cb 0x3C) 2 s)

/-- SRL L (R271) -/
def execSrl_L (s : State) : Out := cbShift .srl .L (charge (.cb 0x3D) 2 s)

/-- SRL (HL) (R271) -/
def execSrl_mHL (s : State) : Out := cbShift .srl .mHL (charge (.cb 0x3E) 4 s)

/-- SRL A (R271) -/
def execSrl_A (s : State) : Out := cbShift .srl .A (charge (.cb 0x3F) 2 s)

end Sys2Proof.Machine
end

