-- ==== Sys2Proof/Machine/Control.lean ====
section
/-! DEFINITION. Control transfer (44_control.md R300 to R310): one meaning per row of the opcode table, run after the fetch has moved PC past the
instruction; each charges its own cycle cost (R132, R440). -/

namespace Sys2Proof.Machine

/-- JR i8 (R303) -/
def execJr_i8 (e : Byte) (s : State) : Out := jumpRel e (charge (.base 0x18) 3 s)

/-- JR NZ,i8 (R304) -/
def execJr_NZ_i8 (e : Byte) (s : State) : Out := branchIf .NZ (.base 0x20) 2 3 s (jumpRel e)

/-- JR Z,i8 (R304) -/
def execJr_Z_i8 (e : Byte) (s : State) : Out := branchIf .Z (.base 0x28) 2 3 s (jumpRel e)

/-- JR NC,i8 (R304) -/
def execJr_NC_i8 (e : Byte) (s : State) : Out := branchIf .NC (.base 0x30) 2 3 s (jumpRel e)

/-- JR C,i8 (R304) -/
def execJr_C_i8 (e : Byte) (s : State) : Out := branchIf .C (.base 0x38) 2 3 s (jumpRel e)

/-- RET NZ (R308) -/
def execRet_NZ (s : State) : Out := branchIf .NZ (.base 0xC0) 2 5 s ret

/-- JP NZ,u16 (R301) -/
def execJp_NZ_u16 (nn : Word) (s : State) : Out := branchIf .NZ (.base 0xC2) 3 4 s (jump nn)

/-- JP u16 (R300) -/
def execJp_u16 (nn : Word) (s : State) : Out := jump nn (charge (.base 0xC3) 4 s)

/-- CALL NZ,u16 (R306) -/
def execCall_NZ_u16 (nn : Word) (s : State) : Out := branchIf .NZ (.base 0xC4) 3 6 s (call nn)

/-- RST 0x00 (R310) -/
def execRst_00 (s : State) : Out := restart .i0 (charge (.base 0xC7) 4 s)

/-- RET Z (R308) -/
def execRet_Z (s : State) : Out := branchIf .Z (.base 0xC8) 2 5 s ret

/-- RET (R307) -/
def execRet (s : State) : Out := ret (charge (.base 0xC9) 4 s)

/-- JP Z,u16 (R301) -/
def execJp_Z_u16 (nn : Word) (s : State) : Out := branchIf .Z (.base 0xCA) 3 4 s (jump nn)

/-- CALL Z,u16 (R306) -/
def execCall_Z_u16 (nn : Word) (s : State) : Out := branchIf .Z (.base 0xCC) 3 6 s (call nn)

/-- CALL u16 (R305) -/
def execCall_u16 (nn : Word) (s : State) : Out := call nn (charge (.base 0xCD) 6 s)

/-- RST 0x08 (R310) -/
def execRst_08 (s : State) : Out := restart .i1 (charge (.base 0xCF) 4 s)

/-- RET NC (R308) -/
def execRet_NC (s : State) : Out := branchIf .NC (.base 0xD0) 2 5 s ret

/-- JP NC,u16 (R301) -/
def execJp_NC_u16 (nn : Word) (s : State) : Out := branchIf .NC (.base 0xD2) 3 4 s (jump nn)

/-- CALL NC,u16 (R306) -/
def execCall_NC_u16 (nn : Word) (s : State) : Out := branchIf .NC (.base 0xD4) 3 6 s (call nn)

/-- RST 0x10 (R310) -/
def execRst_10 (s : State) : Out := restart .i2 (charge (.base 0xD7) 4 s)

/-- RET C (R308) -/
def execRet_C (s : State) : Out := branchIf .C (.base 0xD8) 2 5 s ret

/-- RETI (R309) -/
def execReti (s : State) : Out := returnFromInterrupt (charge (.base 0xD9) 4 s)

/-- JP C,u16 (R301) -/
def execJp_C_u16 (nn : Word) (s : State) : Out := branchIf .C (.base 0xDA) 3 4 s (jump nn)

/-- CALL C,u16 (R306) -/
def execCall_C_u16 (nn : Word) (s : State) : Out := branchIf .C (.base 0xDC) 3 6 s (call nn)

/-- RST 0x18 (R310) -/
def execRst_18 (s : State) : Out := restart .i3 (charge (.base 0xDF) 4 s)

/-- RST 0x20 (R310) -/
def execRst_20 (s : State) : Out := restart .i4 (charge (.base 0xE7) 4 s)

/-- JP HL (R302) -/
def execJp_HL (s : State) : Out := jump (regHL s) (charge (.base 0xE9) 1 s)

/-- RST 0x28 (R310) -/
def execRst_28 (s : State) : Out := restart .i5 (charge (.base 0xEF) 4 s)

/-- RST 0x30 (R310) -/
def execRst_30 (s : State) : Out := restart .i6 (charge (.base 0xF7) 4 s)

/-- RST 0x38 (R310) -/
def execRst_38 (s : State) : Out := restart .i7 (charge (.base 0xFF) 4 s)

end Sys2Proof.Machine
end

