-- ==== Sys2Proof/Machine/Load.lean ====
section
/-! DEFINITION. Loads, stores and stack transfers (40_load.md R160 to R183): one meaning per row of the opcode table, run after the fetch has moved PC past the
instruction; each charges its own cycle cost (R132, R440). -/

namespace Sys2Proof.Machine

/-- LD BC,u16 (R179) -/
def execLd_BC_u16 (nn : Word) (s : State) : Out := loadImm16 .BC nn (charge (.base 0x01) 3 s)

/-- LD (BC),A (R167) -/
def execLd_mBC_A (s : State) : Out := storeA (regBC s) (charge (.base 0x02) 2 s)

/-- LD B,u8 (R163) -/
def execLd_B_u8 (n : Byte) (s : State) : Out := loadImm8 .B n (charge (.base 0x06) 2 s)

/-- LD (u16),SP (R180) -/
def execLd_mU16_SP (nn : Word) (s : State) : Out := storeSP nn (charge (.base 0x08) 5 s)

/-- LD A,(BC) (R165) -/
def execLd_A_mBC (s : State) : Out := loadA (regBC s) (charge (.base 0x0A) 2 s)

/-- LD C,u8 (R163) -/
def execLd_C_u8 (n : Byte) (s : State) : Out := loadImm8 .C n (charge (.base 0x0E) 2 s)

/-- LD DE,u16 (R179) -/
def execLd_DE_u16 (nn : Word) (s : State) : Out := loadImm16 .DE nn (charge (.base 0x11) 3 s)

/-- LD (DE),A (R168) -/
def execLd_mDE_A (s : State) : Out := storeA (regDE s) (charge (.base 0x12) 2 s)

/-- LD D,u8 (R163) -/
def execLd_D_u8 (n : Byte) (s : State) : Out := loadImm8 .D n (charge (.base 0x16) 2 s)

/-- LD A,(DE) (R166) -/
def execLd_A_mDE (s : State) : Out := loadA (regDE s) (charge (.base 0x1A) 2 s)

/-- LD E,u8 (R163) -/
def execLd_E_u8 (n : Byte) (s : State) : Out := loadImm8 .E n (charge (.base 0x1E) 2 s)

/-- LD HL,u16 (R179) -/
def execLd_HL_u16 (nn : Word) (s : State) : Out := loadImm16 .HL nn (charge (.base 0x21) 3 s)

/-- LD (HL+),A (R175) -/
def execLd_mHLinc_A (s : State) : Out := storeAThenHL 1 (charge (.base 0x22) 2 s)

/-- LD H,u8 (R163) -/
def execLd_H_u8 (n : Byte) (s : State) : Out := loadImm8 .H n (charge (.base 0x26) 2 s)

/-- LD A,(HL+) (R176) -/
def execLd_A_mHLinc (s : State) : Out := loadAThenHL 1 (charge (.base 0x2A) 2 s)

/-- LD L,u8 (R163) -/
def execLd_L_u8 (n : Byte) (s : State) : Out := loadImm8 .L n (charge (.base 0x2E) 2 s)

/-- LD SP,u16 (R179) -/
def execLd_SP_u16 (nn : Word) (s : State) : Out := loadImm16 .SP nn (charge (.base 0x31) 3 s)

/-- LD (HL-),A (R177) -/
def execLd_mHLdec_A (s : State) : Out := storeAThenHL (-1) (charge (.base 0x32) 2 s)

/-- LD (HL),u8 (R164) -/
def execLd_mHL_u8 (n : Byte) (s : State) : Out := loadImm8 .mHL n (charge (.base 0x36) 3 s)

/-- LD A,(HL-) (R178) -/
def execLd_A_mHLdec (s : State) : Out := loadAThenHL (-1) (charge (.base 0x3A) 2 s)

/-- LD A,u8 (R163) -/
def execLd_A_u8 (n : Byte) (s : State) : Out := loadImm8 .A n (charge (.base 0x3E) 2 s)

/-- LD B,B (R160) -/
def execLd_B_B (s : State) : Out := copyR8 .B .B (charge (.base 0x40) 1 s)

/-- LD B,C (R160) -/
def execLd_B_C (s : State) : Out := copyR8 .B .C (charge (.base 0x41) 1 s)

/-- LD B,D (R160) -/
def execLd_B_D (s : State) : Out := copyR8 .B .D (charge (.base 0x42) 1 s)

/-- LD B,E (R160) -/
def execLd_B_E (s : State) : Out := copyR8 .B .E (charge (.base 0x43) 1 s)

/-- LD B,H (R160) -/
def execLd_B_H (s : State) : Out := copyR8 .B .H (charge (.base 0x44) 1 s)

/-- LD B,L (R160) -/
def execLd_B_L (s : State) : Out := copyR8 .B .L (charge (.base 0x45) 1 s)

/-- LD B,(HL) (R161) -/
def execLd_B_mHL (s : State) : Out := copyR8 .B .mHL (charge (.base 0x46) 2 s)

/-- LD B,A (R160) -/
def execLd_B_A (s : State) : Out := copyR8 .B .A (charge (.base 0x47) 1 s)

/-- LD C,B (R160) -/
def execLd_C_B (s : State) : Out := copyR8 .C .B (charge (.base 0x48) 1 s)

/-- LD C,C (R160) -/
def execLd_C_C (s : State) : Out := copyR8 .C .C (charge (.base 0x49) 1 s)

/-- LD C,D (R160) -/
def execLd_C_D (s : State) : Out := copyR8 .C .D (charge (.base 0x4A) 1 s)

/-- LD C,E (R160) -/
def execLd_C_E (s : State) : Out := copyR8 .C .E (charge (.base 0x4B) 1 s)

/-- LD C,H (R160) -/
def execLd_C_H (s : State) : Out := copyR8 .C .H (charge (.base 0x4C) 1 s)

/-- LD C,L (R160) -/
def execLd_C_L (s : State) : Out := copyR8 .C .L (charge (.base 0x4D) 1 s)

/-- LD C,(HL) (R161) -/
def execLd_C_mHL (s : State) : Out := copyR8 .C .mHL (charge (.base 0x4E) 2 s)

/-- LD C,A (R160) -/
def execLd_C_A (s : State) : Out := copyR8 .C .A (charge (.base 0x4F) 1 s)

/-- LD D,B (R160) -/
def execLd_D_B (s : State) : Out := copyR8 .D .B (charge (.base 0x50) 1 s)

/-- LD D,C (R160) -/
def execLd_D_C (s : State) : Out := copyR8 .D .C (charge (.base 0x51) 1 s)

/-- LD D,D (R160) -/
def execLd_D_D (s : State) : Out := copyR8 .D .D (charge (.base 0x52) 1 s)

/-- LD D,E (R160) -/
def execLd_D_E (s : State) : Out := copyR8 .D .E (charge (.base 0x53) 1 s)

/-- LD D,H (R160) -/
def execLd_D_H (s : State) : Out := copyR8 .D .H (charge (.base 0x54) 1 s)

/-- LD D,L (R160) -/
def execLd_D_L (s : State) : Out := copyR8 .D .L (charge (.base 0x55) 1 s)

/-- LD D,(HL) (R161) -/
def execLd_D_mHL (s : State) : Out := copyR8 .D .mHL (charge (.base 0x56) 2 s)

/-- LD D,A (R160) -/
def execLd_D_A (s : State) : Out := copyR8 .D .A (charge (.base 0x57) 1 s)

/-- LD E,B (R160) -/
def execLd_E_B (s : State) : Out := copyR8 .E .B (charge (.base 0x58) 1 s)

/-- LD E,C (R160) -/
def execLd_E_C (s : State) : Out := copyR8 .E .C (charge (.base 0x59) 1 s)

/-- LD E,D (R160) -/
def execLd_E_D (s : State) : Out := copyR8 .E .D (charge (.base 0x5A) 1 s)

/-- LD E,E (R160) -/
def execLd_E_E (s : State) : Out := copyR8 .E .E (charge (.base 0x5B) 1 s)

/-- LD E,H (R160) -/
def execLd_E_H (s : State) : Out := copyR8 .E .H (charge (.base 0x5C) 1 s)

/-- LD E,L (R160) -/
def execLd_E_L (s : State) : Out := copyR8 .E .L (charge (.base 0x5D) 1 s)

/-- LD E,(HL) (R161) -/
def execLd_E_mHL (s : State) : Out := copyR8 .E .mHL (charge (.base 0x5E) 2 s)

/-- LD E,A (R160) -/
def execLd_E_A (s : State) : Out := copyR8 .E .A (charge (.base 0x5F) 1 s)

/-- LD H,B (R160) -/
def execLd_H_B (s : State) : Out := copyR8 .H .B (charge (.base 0x60) 1 s)

/-- LD H,C (R160) -/
def execLd_H_C (s : State) : Out := copyR8 .H .C (charge (.base 0x61) 1 s)

/-- LD H,D (R160) -/
def execLd_H_D (s : State) : Out := copyR8 .H .D (charge (.base 0x62) 1 s)

/-- LD H,E (R160) -/
def execLd_H_E (s : State) : Out := copyR8 .H .E (charge (.base 0x63) 1 s)

/-- LD H,H (R160) -/
def execLd_H_H (s : State) : Out := copyR8 .H .H (charge (.base 0x64) 1 s)

/-- LD H,L (R160) -/
def execLd_H_L (s : State) : Out := copyR8 .H .L (charge (.base 0x65) 1 s)

/-- LD H,(HL) (R161) -/
def execLd_H_mHL (s : State) : Out := copyR8 .H .mHL (charge (.base 0x66) 2 s)

/-- LD H,A (R160) -/
def execLd_H_A (s : State) : Out := copyR8 .H .A (charge (.base 0x67) 1 s)

/-- LD L,B (R160) -/
def execLd_L_B (s : State) : Out := copyR8 .L .B (charge (.base 0x68) 1 s)

/-- LD L,C (R160) -/
def execLd_L_C (s : State) : Out := copyR8 .L .C (charge (.base 0x69) 1 s)

/-- LD L,D (R160) -/
def execLd_L_D (s : State) : Out := copyR8 .L .D (charge (.base 0x6A) 1 s)

/-- LD L,E (R160) -/
def execLd_L_E (s : State) : Out := copyR8 .L .E (charge (.base 0x6B) 1 s)

/-- LD L,H (R160) -/
def execLd_L_H (s : State) : Out := copyR8 .L .H (charge (.base 0x6C) 1 s)

/-- LD L,L (R160) -/
def execLd_L_L (s : State) : Out := copyR8 .L .L (charge (.base 0x6D) 1 s)

/-- LD L,(HL) (R161) -/
def execLd_L_mHL (s : State) : Out := copyR8 .L .mHL (charge (.base 0x6E) 2 s)

/-- LD L,A (R160) -/
def execLd_L_A (s : State) : Out := copyR8 .L .A (charge (.base 0x6F) 1 s)

/-- LD (HL),B (R162) -/
def execLd_mHL_B (s : State) : Out := copyR8 .mHL .B (charge (.base 0x70) 2 s)

/-- LD (HL),C (R162) -/
def execLd_mHL_C (s : State) : Out := copyR8 .mHL .C (charge (.base 0x71) 2 s)

/-- LD (HL),D (R162) -/
def execLd_mHL_D (s : State) : Out := copyR8 .mHL .D (charge (.base 0x72) 2 s)

/-- LD (HL),E (R162) -/
def execLd_mHL_E (s : State) : Out := copyR8 .mHL .E (charge (.base 0x73) 2 s)

/-- LD (HL),H (R162) -/
def execLd_mHL_H (s : State) : Out := copyR8 .mHL .H (charge (.base 0x74) 2 s)

/-- LD (HL),L (R162) -/
def execLd_mHL_L (s : State) : Out := copyR8 .mHL .L (charge (.base 0x75) 2 s)

/-- LD (HL),A (R162) -/
def execLd_mHL_A (s : State) : Out := copyR8 .mHL .A (charge (.base 0x77) 2 s)

/-- LD A,B (R160) -/
def execLd_A_B (s : State) : Out := copyR8 .A .B (charge (.base 0x78) 1 s)

/-- LD A,C (R160) -/
def execLd_A_C (s : State) : Out := copyR8 .A .C (charge (.base 0x79) 1 s)

/-- LD A,D (R160) -/
def execLd_A_D (s : State) : Out := copyR8 .A .D (charge (.base 0x7A) 1 s)

/-- LD A,E (R160) -/
def execLd_A_E (s : State) : Out := copyR8 .A .E (charge (.base 0x7B) 1 s)

/-- LD A,H (R160) -/
def execLd_A_H (s : State) : Out := copyR8 .A .H (charge (.base 0x7C) 1 s)

/-- LD A,L (R160) -/
def execLd_A_L (s : State) : Out := copyR8 .A .L (charge (.base 0x7D) 1 s)

/-- LD A,(HL) (R161) -/
def execLd_A_mHL (s : State) : Out := copyR8 .A .mHL (charge (.base 0x7E) 2 s)

/-- LD A,A (R160) -/
def execLd_A_A (s : State) : Out := copyR8 .A .A (charge (.base 0x7F) 1 s)

/-- POP BC (R182) -/
def execPop_BC (s : State) : Out := popPair .BC (charge (.base 0xC1) 3 s)

/-- PUSH BC (R181) -/
def execPush_BC (s : State) : Out := pushPair .BC (charge (.base 0xC5) 4 s)

/-- POP DE (R182) -/
def execPop_DE (s : State) : Out := popPair .DE (charge (.base 0xD1) 3 s)

/-- PUSH DE (R181) -/
def execPush_DE (s : State) : Out := pushPair .DE (charge (.base 0xD5) 4 s)

/-- LDH (u8),A (R172) -/
def execLdh_mU8_A (n : Byte) (s : State) : Out := storeA (highPage n) (charge (.base 0xE0) 3 s)

/-- POP HL (R182) -/
def execPop_HL (s : State) : Out := popPair .HL (charge (.base 0xE1) 3 s)

/-- LD (C),A (R174) -/
def execLd_mC_A (s : State) : Out := storeA (highPage s.c) (charge (.base 0xE2) 2 s)

/-- PUSH HL (R181) -/
def execPush_HL (s : State) : Out := pushPair .HL (charge (.base 0xE5) 4 s)

/-- LD (u16),A (R170) -/
def execLd_mU16_A (nn : Word) (s : State) : Out := storeA nn (charge (.base 0xEA) 4 s)

/-- LDH A,(u8) (R171) -/
def execLdh_A_mU8 (n : Byte) (s : State) : Out := loadA (highPage n) (charge (.base 0xF0) 3 s)

/-- POP AF (R182) -/
def execPop_AF (s : State) : Out := popPair .AF (charge (.base 0xF1) 3 s)

/-- LD A,(C) (R173) -/
def execLd_A_mC (s : State) : Out := loadA (highPage s.c) (charge (.base 0xF2) 2 s)

/-- PUSH AF (R181) -/
def execPush_AF (s : State) : Out := pushPair .AF (charge (.base 0xF5) 4 s)

/-- LD SP,HL (R183) -/
def execLd_SP_HL (s : State) : Out := .next (setSP (regHL s) (charge (.base 0xF9) 2 s))

/-- LD A,(u16) (R169) -/
def execLd_A_mU16 (nn : Word) (s : State) : Out := loadA nn (charge (.base 0xFA) 4 s)

end Sys2Proof.Machine
end

