-- ==== Sys2Proof/Machine/Rotate.lean ====
section
/-! DEFINITION. The accumulator rotates (43_rotate_shift_bit.md R260 to R263): one meaning per row of the opcode table, run after the fetch has moved PC past the
instruction; each charges its own cycle cost (R132, R440). -/

namespace Sys2Proof.Machine

/-- RLCA (R260) -/
def execRlca (s : State) : Out := .next (rotateA .rlc (charge (.base 0x07) 1 s))

/-- RRCA (R261) -/
def execRrca (s : State) : Out := .next (rotateA .rrc (charge (.base 0x0F) 1 s))

/-- RLA (R262) -/
def execRla (s : State) : Out := .next (rotateA .rl (charge (.base 0x17) 1 s))

/-- RRA (R263) -/
def execRra (s : State) : Out := .next (rotateA .rr (charge (.base 0x1F) 1 s))

end Sys2Proof.Machine
end

