-- ==== Sys2Proof/Machine/System.lean ====
section
/-! DEFINITION. System instructions, the unused opcodes and the prefix slot (45_system.md R330 to R339): one meaning per row of the opcode table, run after the fetch has moved PC past the
instruction; each charges its own cycle cost (R132, R440). -/

namespace Sys2Proof.Machine

/-- The default cost of a CB row (R134): 2 with a register, 4 with (HL), 3 for BIT b,(HL). -/
def cbCost (op : Byte) : Nat :=
  match r8Of (fieldLow op) with
  | .mHL => if fieldQuadrant op = 1 then 3 else 4
  | _ => 2

/-- The instruction of the CB table at the byte `op`, by its fields (R134). -/
def cbOperate (op : Byte) (s : State) : Out :=
  let s := charge (.cb op) (cbCost op) s
  match fieldQuadrant op with
  | 0 => cbShift (shiftOf (fieldMid op)) (r8Of (fieldLow op)) s
  | 1 => cbBit (fieldMid op) (r8Of (fieldLow op)) s
  | 2 => cbRes (fieldMid op) (r8Of (fieldLow op)) s
  | _ => cbSet (fieldMid op) (r8Of (fieldLow op)) s

/-- The prefix 0xCB taken by itself (R121, R339, log 9): it fetches the next byte and runs the CB table's instruction. -/
def cbPrefix (s : State) : Out := fetch8 s cbOperate

/-- NOP (R330) -/
def execNop (s : State) : Out := noOp (charge (.base 0x00) 1 s)

/-- STOP (R331) -/
def execStop (n : Byte) (s : State) : Out := stop n (charge (.base 0x10) 1 s)

/-- HALT (R332) -/
def execHalt (s : State) : Out := halt (charge (.base 0x76) 1 s)

/-- PREFIX CB (R339) -/
def execPrefix_CB (s : State) : Out := cbPrefix s

/-- ILLEGAL_D3 (no-op) (R338) -/
def execUnused_D3 (s : State) : Out := noOp (charge (.base 0xD3) 1 s)

/-- ILLEGAL_DB (no-op) (R338) -/
def execUnused_DB (s : State) : Out := noOp (charge (.base 0xDB) 1 s)

/-- ILLEGAL_DD (no-op) (R338) -/
def execUnused_DD (s : State) : Out := noOp (charge (.base 0xDD) 1 s)

/-- ILLEGAL_E3 (no-op) (R338) -/
def execUnused_E3 (s : State) : Out := noOp (charge (.base 0xE3) 1 s)

/-- ILLEGAL_E4 (no-op) (R338) -/
def execUnused_E4 (s : State) : Out := noOp (charge (.base 0xE4) 1 s)

/-- ILLEGAL_EB (no-op) (R338) -/
def execUnused_EB (s : State) : Out := noOp (charge (.base 0xEB) 1 s)

/-- ILLEGAL_EC (no-op) (R338) -/
def execUnused_EC (s : State) : Out := noOp (charge (.base 0xEC) 1 s)

/-- ILLEGAL_ED (no-op) (R338) -/
def execUnused_ED (s : State) : Out := noOp (charge (.base 0xED) 1 s)

/-- DI (R336) -/
def execDi (s : State) : Out := disableInterrupts (charge (.base 0xF3) 1 s)

/-- ILLEGAL_F4 (no-op) (R338) -/
def execUnused_F4 (s : State) : Out := noOp (charge (.base 0xF4) 1 s)

/-- EI (R337) -/
def execEi (s : State) : Out := enableInterrupts (charge (.base 0xFB) 1 s)

/-- ILLEGAL_FC (no-op) (R338) -/
def execUnused_FC (s : State) : Out := noOp (charge (.base 0xFC) 1 s)

/-- ILLEGAL_FD (no-op) (R338) -/
def execUnused_FD (s : State) : Out := noOp (charge (.base 0xFD) 1 s)

end Sys2Proof.Machine
end

