-- ==== Sys2Proof/Machine/Timer.lean ====
section
/-! DEFINITION. The divider and the timer counter (60_exceptions.md R380 to R387). -/

namespace Sys2Proof.Machine

/-- `Period` of a TAC value's clock select, in ticks per increment (R384). -/
def period (tac : Byte) : Nat :=
  if tac.extractLsb' 0 2 = 0 then 1024
  else if tac.extractLsb' 0 2 = 1 then 16
  else if tac.extractLsb' 0 2 = 2 then 64
  else 256

/-- TAC[2], the timer enable (R36, R383). -/
def timerOn (s : State) : Bool := s.tac.getLsbD 2

/-- One increment of TIMA: past 0xFF it reloads from TMA and raises IF bit 2 in the same tick (R385). -/
def timaTick (s : State) : State :=
  if s.tima = 0xFF then { s with tima := s.tma, ifr := s.ifr ||| 0x04 } else { s with tima := s.tima + 1 }

/-- `k` increments of TIMA (R387). -/
def timaTicks : Nat → State → State
  | 0, s => s
  | k + 1, s => timaTicks k (timaTick s)

/-- The divider's share of `n` ticks (R380, R381); the loop of R380 runs `(divAccum + n) / 256` times (log 21). -/
def advanceDivider (n : Nat) (s : State) : State :=
  match s.cfg.divMode with
  | .literal =>
    { s with divAccum := (s.divAccum + n) % 256, divider := s.divider + BitVec.ofNat 16 ((s.divAccum + n) / 256) }
  | .cycleCounter => { s with divider := s.divider + BitVec.ofNat 16 n }

/-- The timer counter's share of `n` ticks (R380, R383); the loop of R380 runs `(timerAccum + n) / p` times (log 21). -/
def advanceTimer (n : Nat) (s : State) : State :=
  if timerOn s then
    let total := s.timerAccum + n
    timaTicks (total / period s.tac) { s with timerAccum := total % period s.tac }
  else s

/-- `AdvanceTimers(cycles)` (R380). -/
def advanceTimers (cycles : Nat) (s : State) : State :=
  advanceTimer (cycles * s.cfg.timerTicksPerCycle) (advanceDivider (cycles * s.cfg.timerTicksPerCycle) s)

end Sys2Proof.Machine
end

