-- ==== Sys2Proof/Machine/Engine.lean ====
section
/-! DEFINITION. The Step, the system step and the environment's turn (60_exceptions.md R370, R390, R391), over the effect
`run` of a decoded instruction, which Step.lean supplies. -/

namespace Sys2Proof.Machine

/-- The wake of R371: a pending request clears halted whatever IME holds. -/
def wake (s : State) : State := if pending s != 0 then { s with halted := false } else s

/-- The request a Step dispatches, if any (R370, R372). -/
def dispatchDue (s : State) : Option IrqSource := if s.ime then topRequest s else none

/-- A Step spent halted: no fetch, cost 2 (R370). -/
def haltedStep (s : State) : State := { s with cycles := 2 }

/-- An EI of an earlier Step is waiting (R370, only under EI_DELAY = 1). -/
def eiArmed (s : State) : Bool := decide (s.cfg.eiDelay = .oneInstruction) && s.eiPending

/-- The end of an instruction-executing Step: a waiting EI that was not cancelled takes effect (R370). -/
def settleEi (armed : Bool) (s : State) : State :=
  if armed && s.eiPending then { s with ime := true, eiPending := false } else s

/-- Fetch, decode and run one instruction (R370). -/
def instructionStep (run : Instr → State → Out) (s : State) : Out :=
  fetchInstr s fun i s' => andThen (run i s') fun t => .next (settleEi (eiArmed s) t)

/-- `Step()` (R370): wake, then dispatch, or stay halted, or run one instruction. -/
def engineStep (run : Instr → State → Out) (s : State) : Out :=
  match dispatchDue (wake s) with
  | some i => takeInterrupt i (wake s)
  | none => if (wake s).halted then .next (haltedStep (wake s)) else instructionStep run (wake s)

/-- `SystemStep()` (R390): the Step, then AdvanceTimers with its count; a faulting Step advances nothing. -/
def systemStep (run : Instr → State → Out) (s : State) : Out :=
  andThen (engineStep run s) fun t => .next (advanceTimers t.cycles t)

/-- The device I/O bytes one input writes (R391); an address that is no device's byte is passed over. -/
def envWrites : List (Word × Byte) → State → State
  | [], s => s
  | (addr, v) :: rest, s =>
    envWrites rest (if isDeviceIo addr then { s with mem := s.mem.write addr.toNat v } else s)

/-- The IF bits one input sets: a subset of bits 0, 1, 3 and 4 (R391). -/
def envRequests (i : EnvInput) : Byte :=
  (if i.vblank then 0x01 else 0) ||| (if i.lcd then 0x02 else 0) ||| (if i.serial then 0x08 else 0) |||
    (if i.joypad then 0x10 else 0)

/-- The environment's turn between two system steps (R391, log 3): its next input, or nothing when none is left. -/
def envTurn (s : State) : State :=
  match s.env with
  | [] => s
  | i :: rest => envWrites i.ioWrites { s with env := rest, ifr := s.ifr ||| envRequests i }

/-- One step of the machine: a system step, then the environment's turn. -/
def machineStep (run : Instr → State → Out) (s : State) : Out :=
  andThen (systemStep run s) fun t => .next (envTurn t)

/-- Put up to three bytes at PC, PC + 1, PC + 2 (log 15). -/
def placeCode : List Byte → Word → State → State
  | [], _, s => s
  | v :: rest, addr, s => placeCode rest (addr + 1) (poke addr v s)

/-- Nothing stands between this state and an ordinary fetch at PC (log 15): not halted, no HALT bug waiting, no dispatch due. -/
def readyToFetch (s : State) : State :=
  { s with halted := false, haltBugPending := false, ime := s.ime && pending s == 0 }

end Sys2Proof.Machine
end

