-- ==== Sys2Proof/Machine/Step.lean ====
section
/-! DEFINITION. One step of the machine (60_exceptions.md R370, R390, R391) over exec, and the host's way to have one
instruction fetched. -/

namespace Sys2Proof.Machine

/-- One step: the system step `Step(); AdvanceTimers(c)` (R390), then the environment's turn (R391). -/
def step (s : State) : Host.Outcome State Fault Refusal := machineStep exec s

/-- `s` with the instruction of a table word stored where `step` fetches next, and ready to fetch it (log 15). -/
def State.withFetchWord (s : State) (nbits w : Nat) : State :=
  placeCode (tableBytes nbits w) s.pc (readyToFetch s)

end Sys2Proof.Machine
end

