-- ==== Sys2Proof/Machine/PowerOn.lean ====
section
/-! DEFINITION. Power-on (70_reset_and_hazards.md R420): from an image, the parameters and the drawn RAM contents, the first
state, or LoadRefused. -/

namespace Sys2Proof.Machine

/-- `PowerOn(image)` (R420): step 1 loads or refuses, step 3 sets every piece of state to its value in R43. `ram` and
`cartRam` are the RAM contents drawn (D23), `env` the oracle's inputs (R391). F takes only its upper nibble (R22). -/
def powerOn (cfg : Config) (img : Image) (ram cartRam : Memory) (env : List EnvInput) : Except Fault State :=
  match loadCartridge img with
  | .error why => .error (.loadRefused why)
  | .ok cart =>
    .ok { cfg := cfg, cart := cart,
          a := cfg.resetRegs.a, f := cfg.resetRegs.f &&& 0xF0, b := cfg.resetRegs.b, c := cfg.resetRegs.c,
          d := cfg.resetRegs.d, e := cfg.resetRegs.e, h := cfg.resetRegs.h, l := cfg.resetRegs.l,
          sp := cfg.resetRegs.sp, pc := cfg.resetRegs.pc,
          ime := false, halted := false, eiPending := false, haltBugPending := false, ie := 0x00, ifr := 0x00,
          divider := 0x0000, tima := 0x00, tma := 0x00, tac := 0x00, timerAccum := 0, divAccum := 0,
          ramEnabled := false, primary := 1, secondary := 0, mode := .simple,
          mem := ram, cartRam := cartRam, env := env, cycles := 0, draws := 0 }

end Sys2Proof.Machine
end

