-- ==== Sys2Proof/WellFormed.lean ====
section
/-! DEFINITION. Which terms are whole instructions and which configurations agree with the source. Operand ranges need no
check: every field of an instruction has exactly the width its encoding has. -/

namespace Sys2Proof

/-- A whole instruction: anything but the bare prefix 0xCB, which is no instruction of its own (30_encoding.md R135,
45_system.md R339). -/
def Instr.wellFormed : Instr → Bool
  | .prefix_CB => false
  | _ => true

/-- A CycleCost table that keeps the costs the source fixes: NOP = 1 and LD BC,u16 = 3 (70_reset_and_hazards.md R440). -/
def Config.wellFormed (cfg : Config) : Bool :=
  cfg.cycleCost.all fun e => decide (e.slot ≠ .base 0x00) && decide (e.slot ≠ .base 0x01)

end Sys2Proof
end

