-- ==== Sys2Proof/Safety.lean ====
section
/-! DEFINITION. The terms claims use: operands, costs and stores read straight from the rules, the opcode table's flag column,
the invariant of a state between two steps. -/

namespace Sys2Proof.Machine

/-! ### Operands (30_encoding.md R124) -/

/-- The value an 8-bit operand code reads: a register, or the byte at HL. -/
def opnd (r : R8) (s : State) : Byte :=
  match r with
  | .B => s.b
  | .C => s.c
  | .D => s.d
  | .E => s.e
  | .H => s.h
  | .L => s.l
  | .mHL => readByte (regHL s) s
  | .A => s.a

/-- The state after that read. -/
def afterOpnd (r : R8) (s : State) : State :=
  match r with
  | .mHL => afterRead (regHL s) s
  | _ => s

/-- The state with `v` in the operand an 8-bit code names. -/
def put (r : R8) (v : Byte) (s : State) : State :=
  match r with
  | .B => { s with b := v }
  | .C => { s with c := v }
  | .D => { s with d := v }
  | .E => { s with e := v }
  | .H => { s with h := v }
  | .L => { s with l := v }
  | .mHL => store (regHL s) v s
  | .A => { s with a := v }

/-- An access at `addr` does not stop: always so but under UNMAPPED_POLICY = Fault (20_memory.md R66). -/
def open_ (addr : Word) (s : State) : Prop := faulting addr s = false

/-- The operand can be accessed. -/
def opndOpen (r : R8) (s : State) : Prop := r = .mHL → open_ (regHL s) s

/-- `a` for a register operand, `b` for the byte at HL: the two cycle counts of a form (R440). -/
def byOperand (r : R8) (a b : Nat) : Nat := if r = .mHL then b else a

/-! ### Costs and the stack -/

/-- The slot of the opcode table an instruction stands in. -/
def slotOf (i : Instr) : Slot :=
  match encode i with
  | op :: op2 :: _ => if op = 0xCB then .cb op2 else .base op
  | op :: [] => .base op
  | [] => .base 0

/-- The base cost of an instruction whose default is `dflt` (R440). -/
def costOf (i : Instr) (dflt : Nat) (s : State) : Nat := baseCost (slotOf i) dflt s.cfg

/-- The taken cost of an instruction whose default is `dflt` (R440). -/
def takenCostOf (i : Instr) (dflt : Nat) (s : State) : Nat := takenCost (slotOf i) dflt s.cfg

/-- The state after `push16(v)` (00_scope.md R13): SP down by 2, low byte at SP, high byte at SP + 1. -/
def pushed (v : Word) (s : State) : State :=
  store (s.sp - 2 + 1) (hiByte v) (store (s.sp - 2) (loByte v) { s with sp := s.sp - 2 })

/-- Both bytes of a push can be written. -/
def pushOpen (s : State) : Prop := open_ (s.sp - 2) s ∧ open_ (s.sp - 2 + 1) s

/-- The value `pop16()` gives (R13). -/
def popped (s : State) : Word := wordOf (readByte (s.sp + 1) (afterRead s.sp s)) (readByte s.sp s)

/-- The state after `pop16()`: SP up by 2. -/
def afterPop (s : State) : State := { afterRead (s.sp + 1) (afterRead s.sp s) with sp := s.sp + 2 }

/-- Both bytes of a pop can be read. -/
def popOpen (s : State) : Prop := open_ s.sp s ∧ open_ (s.sp + 1) s

/-- The addresses an instruction stores to, in order, when it runs in `s`: what its own addressing form gives. -/
def storeTargets (i : Instr) (s : State) : List Word :=
  match i with
  | .ld_mBC_A => [regBC s]
  | .ld_mU16_SP nn => [nn, nn + 1]
  | .ld_mDE_A => [regDE s]
  | .ld_mHLinc_A => [regHL s]
  | .ld_mHLdec_A => [regHL s]
  | .inc_mHL => [regHL s]
  | .dec_mHL => [regHL s]
  | .ld_mHL_u8 _ => [regHL s]
  | .ld_mHL_B => [regHL s]
  | .ld_mHL_C => [regHL s]
  | .ld_mHL_D => [regHL s]
  | .ld_mHL_E => [regHL s]
  | .ld_mHL_H => [regHL s]
  | .ld_mHL_L => [regHL s]
  | .ld_mHL_A => [regHL s]
  | .call_NZ_u16 _ => if cond .NZ s then [s.sp - 2, s.sp - 2 + 1] else []
  | .push_BC => [s.sp - 2, s.sp - 2 + 1]
  | .rst_00 => [s.sp - 2, s.sp - 2 + 1]
  | .call_Z_u16 _ => if cond .Z s then [s.sp - 2, s.sp - 2 + 1] else []
  | .call_u16 _ => [s.sp - 2, s.sp - 2 + 1]
  | .rst_08 => [s.sp - 2, s.sp - 2 + 1]
  | .call_NC_u16 _ => if cond .NC s then [s.sp - 2, s.sp - 2 + 1] else []
  | .push_DE => [s.sp - 2, s.sp - 2 + 1]
  | .rst_10 => [s.sp - 2, s.sp - 2 + 1]
  | .call_C_u16 _ => if cond .C s then [s.sp - 2, s.sp - 2 + 1] else []
  | .rst_18 => [s.sp - 2, s.sp - 2 + 1]
  | .ldh_mU8_A n => [highPage n]
  | .ld_mC_A => [highPage s.c]
  | .push_HL => [s.sp - 2, s.sp - 2 + 1]
  | .rst_20 => [s.sp - 2, s.sp - 2 + 1]
  | .ld_mU16_A nn => [nn]
  | .rst_28 => [s.sp - 2, s.sp - 2 + 1]
  | .push_AF => [s.sp - 2, s.sp - 2 + 1]
  | .rst_30 => [s.sp - 2, s.sp - 2 + 1]
  | .rst_38 => [s.sp - 2, s.sp - 2 + 1]
  | .rlc_mHL => [regHL s]
  | .rrc_mHL => [regHL s]
  | .rl_mHL => [regHL s]
  | .rr_mHL => [regHL s]
  | .sla_mHL => [regHL s]
  | .sra_mHL => [regHL s]
  | .swap_mHL => [regHL s]
  | .srl_mHL => [regHL s]
  | .res_0_mHL => [regHL s]
  | .res_1_mHL => [regHL s]
  | .res_2_mHL => [regHL s]
  | .res_3_mHL => [regHL s]
  | .res_4_mHL => [regHL s]
  | .res_5_mHL => [regHL s]
  | .res_6_mHL => [regHL s]
  | .res_7_mHL => [regHL s]
  | .set_0_mHL => [regHL s]
  | .set_1_mHL => [regHL s]
  | .set_2_mHL => [regHL s]
  | .set_3_mHL => [regHL s]
  | .set_4_mHL => [regHL s]
  | .set_5_mHL => [regHL s]
  | .set_6_mHL => [regHL s]
  | .set_7_mHL => [regHL s]
  | _ => []

/-! ### The flag column of the opcode table -/

/-- What the table's column `flags_ZNHC` says of one flag: unchanged, forced to 0, forced to 1, or written from the result. -/
inductive FlagEffect
  | kept
  | zero
  | one
  | result
deriving DecidableEq, Repr

/-- The column's four letters. -/
structure FlagColumn where
  z : FlagEffect
  n : FlagEffect
  h : FlagEffect
  c : FlagEffect
deriving DecidableEq, Repr

/-- The column `----`. -/
def FlagColumn.kept : FlagColumn := ⟨.kept, .kept, .kept, .kept⟩
/-- The column `-001`. -/
def FlagColumn.col_k001 : FlagColumn := ⟨.kept, .zero, .zero, .one⟩
/-- The column `-00C`. -/
def FlagColumn.col_k00C : FlagColumn := ⟨.kept, .zero, .zero, .result⟩
/-- The column `-0HC`. -/
def FlagColumn.col_k0HC : FlagColumn := ⟨.kept, .zero, .result, .result⟩
/-- The column `-11-`. -/
def FlagColumn.col_k11k : FlagColumn := ⟨.kept, .one, .one, .kept⟩
/-- The column `000C`. -/
def FlagColumn.col_000C : FlagColumn := ⟨.zero, .zero, .zero, .result⟩
/-- The column `00HC`. -/
def FlagColumn.col_00HC : FlagColumn := ⟨.zero, .zero, .result, .result⟩
/-- The column `Z-0C`. -/
def FlagColumn.col_Zk0C : FlagColumn := ⟨.result, .kept, .zero, .result⟩
/-- The column `Z000`. -/
def FlagColumn.col_Z000 : FlagColumn := ⟨.result, .zero, .zero, .zero⟩
/-- The column `Z00C`. -/
def FlagColumn.col_Z00C : FlagColumn := ⟨.result, .zero, .zero, .result⟩
/-- The column `Z01-`. -/
def FlagColumn.col_Z01k : FlagColumn := ⟨.result, .zero, .one, .kept⟩
/-- The column `Z010`. -/
def FlagColumn.col_Z010 : FlagColumn := ⟨.result, .zero, .one, .zero⟩
/-- The column `Z0H-`. -/
def FlagColumn.col_Z0Hk : FlagColumn := ⟨.result, .zero, .result, .kept⟩
/-- The column `Z0HC`. -/
def FlagColumn.col_Z0HC : FlagColumn := ⟨.result, .zero, .result, .result⟩
/-- The column `Z1H-`. -/
def FlagColumn.col_Z1Hk : FlagColumn := ⟨.result, .one, .result, .kept⟩
/-- The column `Z1HC`. -/
def FlagColumn.col_Z1HC : FlagColumn := ⟨.result, .one, .result, .result⟩
/-- The column `ZNHC`. -/
def FlagColumn.col_ZNHC : FlagColumn := ⟨.result, .result, .result, .result⟩

/-- One flag meets what the column says of it. -/
def FlagEffect.holds (e : FlagEffect) (before after : Bool) : Prop :=
  match e with
  | .kept => after = before
  | .zero => after = false
  | .one => after = true
  | .result => True

/-- The column of each row of spec/opcode_table.json. -/
def flagColumn : Instr → FlagColumn
  | .nop => .kept
  | .ld_BC_u16 _ => .kept
  | .ld_mBC_A => .kept
  | .inc_BC => .kept
  | .inc_B => .col_Z0Hk
  | .dec_B => .col_Z1Hk
  | .ld_B_u8 _ => .kept
  | .rlca => .col_000C
  | .ld_mU16_SP _ => .kept
  | .add_HL_BC => .col_k0HC
  | .ld_A_mBC => .kept
  | .dec_BC => .kept
  | .inc_C => .col_Z0Hk
  | .dec_C => .col_Z1Hk
  | .ld_C_u8 _ => .kept
  | .rrca => .col_000C
  | .stop _ => .kept
  | .ld_DE_u16 _ => .kept
  | .ld_mDE_A => .kept
  | .inc_DE => .kept
  | .inc_D => .col_Z0Hk
  | .dec_D => .col_Z1Hk
  | .ld_D_u8 _ => .kept
  | .rla => .col_000C
  | .jr_i8 _ => .kept
  | .add_HL_DE => .col_k0HC
  | .ld_A_mDE => .kept
  | .dec_DE => .kept
  | .inc_E => .col_Z0Hk
  | .dec_E => .col_Z1Hk
  | .ld_E_u8 _ => .kept
  | .rra => .col_000C
  | .jr_NZ_i8 _ => .kept
  | .ld_HL_u16 _ => .kept
  | .ld_mHLinc_A => .kept
  | .inc_HL => .kept
  | .inc_H => .col_Z0Hk
  | .dec_H => .col_Z1Hk
  | .ld_H_u8 _ => .kept
  | .daa => .col_Zk0C
  | .jr_Z_i8 _ => .kept
  | .add_HL_HL => .col_k0HC
  | .ld_A_mHLinc => .kept
  | .dec_HL => .kept
  | .inc_L => .col_Z0Hk
  | .dec_L => .col_Z1Hk
  | .ld_L_u8 _ => .kept
  | .cpl => .col_k11k
  | .jr_NC_i8 _ => .kept
  | .ld_SP_u16 _ => .kept
  | .ld_mHLdec_A => .kept
  | .inc_SP => .kept
  | .inc_mHL => .col_Z0Hk
  | .dec_mHL => .col_Z1Hk
  | .ld_mHL_u8 _ => .kept
  | .scf => .col_k001
  | .jr_C_i8 _ => .kept
  | .add_HL_SP => .col_k0HC
  | .ld_A_mHLdec => .kept
  | .dec_SP => .kept
  | .inc_A => .col_Z0Hk
  | .dec_A => .col_Z1Hk
  | .ld_A_u8 _ => .kept
  | .ccf => .col_k00C
  | .ld_B_B => .kept
  | .ld_B_C => .kept
  | .ld_B_D => .kept
  | .ld_B_E => .kept
  | .ld_B_H => .kept
  | .ld_B_L => .kept
  | .ld_B_mHL => .kept
  | .ld_B_A => .kept
  | .ld_C_B => .kept
  | .ld_C_C => .kept
  | .ld_C_D => .kept
  | .ld_C_E => .kept
  | .ld_C_H => .kept
  | .ld_C_L => .kept
  | .ld_C_mHL => .kept
  | .ld_C_A => .kept
  | .ld_D_B => .kept
  | .ld_D_C => .kept
  | .ld_D_D => .kept
  | .ld_D_E => .kept
  | .ld_D_H => .kept
  | .ld_D_L => .kept
  | .ld_D_mHL => .kept
  | .ld_D_A => .kept
  | .ld_E_B => .kept
  | .ld_E_C => .kept
  | .ld_E_D => .kept
  | .ld_E_E => .kept
  | .ld_E_H => .kept
  | .ld_E_L => .kept
  | .ld_E_mHL => .kept
  | .ld_E_A => .kept
  | .ld_H_B => .kept
  | .ld_H_C => .kept
  | .ld_H_D => .kept
  | .ld_H_E => .kept
  | .ld_H_H => .kept
  | .ld_H_L => .kept
  | .ld_H_mHL => .kept
  | .ld_H_A => .kept
  | .ld_L_B => .kept
  | .ld_L_C => .kept
  | .ld_L_D => .kept
  | .ld_L_E => .kept
  | .ld_L_H => .kept
  | .ld_L_L => .kept
  | .ld_L_mHL => .kept
  | .ld_L_A => .kept
  | .ld_mHL_B => .kept
  | .ld_mHL_C => .kept
  | .ld_mHL_D => .kept
  | .ld_mHL_E => .kept
  | .ld_mHL_H => .kept
  | .ld_mHL_L => .kept
  | .halt => .kept
  | .ld_mHL_A => .kept
  | .ld_A_B => .kept
  | .ld_A_C => .kept
  | .ld_A_D => .kept
  | .ld_A_E => .kept
  | .ld_A_H => .kept
  | .ld_A_L => .kept
  | .ld_A_mHL => .kept
  | .ld_A_A => .kept
  | .add_A_B => .col_Z0HC
  | .add_A_C => .col_Z0HC
  | .add_A_D => .col_Z0HC
  | .add_A_E => .col_Z0HC
  | .add_A_H => .col_Z0HC
  | .add_A_L => .col_Z0HC
  | .add_A_mHL => .col_Z0HC
  | .add_A_A => .col_Z0HC
  | .adc_A_B => .col_Z0HC
  | .adc_A_C => .col_Z0HC
  | .adc_A_D => .col_Z0HC
  | .adc_A_E => .col_Z0HC
  | .adc_A_H => .col_Z0HC
  | .adc_A_L => .col_Z0HC
  | .adc_A_mHL => .col_Z0HC
  | .adc_A_A => .col_Z0HC
  | .sub_B => .col_Z1HC
  | .sub_C => .col_Z1HC
  | .sub_D => .col_Z1HC
  | .sub_E => .col_Z1HC
  | .sub_H => .col_Z1HC
  | .sub_L => .col_Z1HC
  | .sub_mHL => .col_Z1HC
  | .sub_A => .col_Z1HC
  | .sbc_A_B => .col_Z1HC
  | .sbc_A_C => .col_Z1HC
  | .sbc_A_D => .col_Z1HC
  | .sbc_A_E => .col_Z1HC
  | .sbc_A_H => .col_Z1HC
  | .sbc_A_L => .col_Z1HC
  | .sbc_A_mHL => .col_Z1HC
  | .sbc_A_A => .col_Z1HC
  | .and_B => .col_Z010
  | .and_C => .col_Z010
  | .and_D => .col_Z010
  | .and_E => .col_Z010
  | .and_H => .col_Z010
  | .and_L => .col_Z010
  | .and_mHL => .col_Z010
  | .and_A => .col_Z010
  | .xor_B => .col_Z000
  | .xor_C => .col_Z000
  | .xor_D => .col_Z000
  | .xor_E => .col_Z000
  | .xor_H => .col_Z000
  | .xor_L => .col_Z000
  | .xor_mHL => .col_Z000
  | .xor_A => .col_Z000
  | .or_B => .col_Z000
  | .or_C => .col_Z000
  | .or_D => .col_Z000
  | .or_E => .col_Z000
  | .or_H => .col_Z000
  | .or_L => .col_Z000
  | .or_mHL => .col_Z000
  | .or_A => .col_Z000
  | .cp_B => .col_Z1HC
  | .cp_C => .col_Z1HC
  | .cp_D => .col_Z1HC
  | .cp_E => .col_Z1HC
  | .cp_H => .col_Z1HC
  | .cp_L => .col_Z1HC
  | .cp_mHL => .col_Z1HC
  | .cp_A => .col_Z1HC
  | .ret_NZ => .kept
  | .pop_BC => .kept
  | .jp_NZ_u16 _ => .kept
  | .jp_u16 _ => .kept
  | .call_NZ_u16 _ => .kept
  | .push_BC => .kept
  | .add_A_u8 _ => .col_Z0HC
  | .rst_00 => .kept
  | .ret_Z => .kept
  | .ret => .kept
  | .jp_Z_u16 _ => .kept
  | .prefix_CB => .kept
  | .call_Z_u16 _ => .kept
  | .call_u16 _ => .kept
  | .adc_A_u8 _ => .col_Z0HC
  | .rst_08 => .kept
  | .ret_NC => .kept
  | .pop_DE => .kept
  | .jp_NC_u16 _ => .kept
  | .unused_D3 => .kept
  | .call_NC_u16 _ => .kept
  | .push_DE => .kept
  | .sub_u8 _ => .col_Z1HC
  | .rst_10 => .kept
  | .ret_C => .kept
  | .reti => .kept
  | .jp_C_u16 _ => .kept
  | .unused_DB => .kept
  | .call_C_u16 _ => .kept
  | .unused_DD => .kept
  | .sbc_A_u8 _ => .col_Z1HC
  | .rst_18 => .kept
  | .ldh_mU8_A _ => .kept
  | .pop_HL => .kept
  | .ld_mC_A => .kept
  | .unused_E3 => .kept
  | .unused_E4 => .kept
  | .push_HL => .kept
  | .and_u8 _ => .col_Z010
  | .rst_20 => .kept
  | .add_SP_i8 _ => .col_00HC
  | .jp_HL => .kept
  | .ld_mU16_A _ => .kept
  | .unused_EB => .kept
  | .unused_EC => .kept
  | .unused_ED => .kept
  | .xor_u8 _ => .col_Z000
  | .rst_28 => .kept
  | .ldh_A_mU8 _ => .kept
  | .pop_AF => .col_ZNHC
  | .ld_A_mC => .kept
  | .di => .kept
  | .unused_F4 => .kept
  | .push_AF => .kept
  | .or_u8 _ => .col_Z000
  | .rst_30 => .kept
  | .ld_HL_SPi8 _ => .col_00HC
  | .ld_SP_HL => .kept
  | .ld_A_mU16 _ => .kept
  | .ei => .kept
  | .unused_FC => .kept
  | .unused_FD => .kept
  | .cp_u8 _ => .col_Z1HC
  | .rst_38 => .kept
  | .rlc_B => .col_Z00C
  | .rlc_C => .col_Z00C
  | .rlc_D => .col_Z00C
  | .rlc_E => .col_Z00C
  | .rlc_H => .col_Z00C
  | .rlc_L => .col_Z00C
  | .rlc_mHL => .col_Z00C
  | .rlc_A => .col_Z00C
  | .rrc_B => .col_Z00C
  | .rrc_C => .col_Z00C
  | .rrc_D => .col_Z00C
  | .rrc_E => .col_Z00C
  | .rrc_H => .col_Z00C
  | .rrc_L => .col_Z00C
  | .rrc_mHL => .col_Z00C
  | .rrc_A => .col_Z00C
  | .rl_B => .col_Z00C
  | .rl_C => .col_Z00C
  | .rl_D => .col_Z00C
  | .rl_E => .col_Z00C
  | .rl_H => .col_Z00C
  | .rl_L => .col_Z00C
  | .rl_mHL => .col_Z00C
  | .rl_A => .col_Z00C
  | .rr_B => .col_Z00C
  | .rr_C => .col_Z00C
  | .rr_D => .col_Z00C
  | .rr_E => .col_Z00C
  | .rr_H => .col_Z00C
  | .rr_L => .col_Z00C
  | .rr_mHL => .col_Z00C
  | .rr_A => .col_Z00C
  | .sla_B => .col_Z00C
  | .sla_C => .col_Z00C
  | .sla_D => .col_Z00C
  | .sla_E => .col_Z00C
  | .sla_H => .col_Z00C
  | .sla_L => .col_Z00C
  | .sla_mHL => .col_Z00C
  | .sla_A => .col_Z00C
  | .sra_B => .col_Z00C
  | .sra_C => .col_Z00C
  | .sra_D => .col_Z00C
  | .sra_E => .col_Z00C
  | .sra_H => .col_Z00C
  | .sra_L => .col_Z00C
  | .sra_mHL => .col_Z00C
  | .sra_A => .col_Z00C
  | .swap_B => .col_Z000
  | .swap_C => .col_Z000
  | .swap_D => .col_Z000
  | .swap_E => .col_Z000
  | .swap_H => .col_Z000
  | .swap_L => .col_Z000
  | .swap_mHL => .col_Z000
  | .swap_A => .col_Z000
  | .srl_B => .col_Z00C
  | .srl_C => .col_Z00C
  | .srl_D => .col_Z00C
  | .srl_E => .col_Z00C
  | .srl_H => .col_Z00C
  | .srl_L => .col_Z00C
  | .srl_mHL => .col_Z00C
  | .srl_A => .col_Z00C
  | .bit_0_B => .col_Z01k
  | .bit_0_C => .col_Z01k
  | .bit_0_D => .col_Z01k
  | .bit_0_E => .col_Z01k
  | .bit_0_H => .col_Z01k
  | .bit_0_L => .col_Z01k
  | .bit_0_mHL => .col_Z01k
  | .bit_0_A => .col_Z01k
  | .bit_1_B => .col_Z01k
  | .bit_1_C => .col_Z01k
  | .bit_1_D => .col_Z01k
  | .bit_1_E => .col_Z01k
  | .bit_1_H => .col_Z01k
  | .bit_1_L => .col_Z01k
  | .bit_1_mHL => .col_Z01k
  | .bit_1_A => .col_Z01k
  | .bit_2_B => .col_Z01k
  | .bit_2_C => .col_Z01k
  | .bit_2_D => .col_Z01k
  | .bit_2_E => .col_Z01k
  | .bit_2_H => .col_Z01k
  | .bit_2_L => .col_Z01k
  | .bit_2_mHL => .col_Z01k
  | .bit_2_A => .col_Z01k
  | .bit_3_B => .col_Z01k
  | .bit_3_C => .col_Z01k
  | .bit_3_D => .col_Z01k
  | .bit_3_E => .col_Z01k
  | .bit_3_H => .col_Z01k
  | .bit_3_L => .col_Z01k
  | .bit_3_mHL => .col_Z01k
  | .bit_3_A => .col_Z01k
  | .bit_4_B => .col_Z01k
  | .bit_4_C => .col_Z01k
  | .bit_4_D => .col_Z01k
  | .bit_4_E => .col_Z01k
  | .bit_4_H => .col_Z01k
  | .bit_4_L => .col_Z01k
  | .bit_4_mHL => .col_Z01k
  | .bit_4_A => .col_Z01k
  | .bit_5_B => .col_Z01k
  | .bit_5_C => .col_Z01k
  | .bit_5_D => .col_Z01k
  | .bit_5_E => .col_Z01k
  | .bit_5_H => .col_Z01k
  | .bit_5_L => .col_Z01k
  | .bit_5_mHL => .col_Z01k
  | .bit_5_A => .col_Z01k
  | .bit_6_B => .col_Z01k
  | .bit_6_C => .col_Z01k
  | .bit_6_D => .col_Z01k
  | .bit_6_E => .col_Z01k
  | .bit_6_H => .col_Z01k
  | .bit_6_L => .col_Z01k
  | .bit_6_mHL => .col_Z01k
  | .bit_6_A => .col_Z01k
  | .bit_7_B => .col_Z01k
  | .bit_7_C => .col_Z01k
  | .bit_7_D => .col_Z01k
  | .bit_7_E => .col_Z01k
  | .bit_7_H => .col_Z01k
  | .bit_7_L => .col_Z01k
  | .bit_7_mHL => .col_Z01k
  | .bit_7_A => .col_Z01k
  | .res_0_B => .kept
  | .res_0_C => .kept
  | .res_0_D => .kept
  | .res_0_E => .kept
  | .res_0_H => .kept
  | .res_0_L => .kept
  | .res_0_mHL => .kept
  | .res_0_A => .kept
  | .res_1_B => .kept
  | .res_1_C => .kept
  | .res_1_D => .kept
  | .res_1_E => .kept
  | .res_1_H => .kept
  | .res_1_L => .kept
  | .res_1_mHL => .kept
  | .res_1_A => .kept
  | .res_2_B => .kept
  | .res_2_C => .kept
  | .res_2_D => .kept
  | .res_2_E => .kept
  | .res_2_H => .kept
  | .res_2_L => .kept
  | .res_2_mHL => .kept
  | .res_2_A => .kept
  | .res_3_B => .kept
  | .res_3_C => .kept
  | .res_3_D => .kept
  | .res_3_E => .kept
  | .res_3_H => .kept
  | .res_3_L => .kept
  | .res_3_mHL => .kept
  | .res_3_A => .kept
  | .res_4_B => .kept
  | .res_4_C => .kept
  | .res_4_D => .kept
  | .res_4_E => .kept
  | .res_4_H => .kept
  | .res_4_L => .kept
  | .res_4_mHL => .kept
  | .res_4_A => .kept
  | .res_5_B => .kept
  | .res_5_C => .kept
  | .res_5_D => .kept
  | .res_5_E => .kept
  | .res_5_H => .kept
  | .res_5_L => .kept
  | .res_5_mHL => .kept
  | .res_5_A => .kept
  | .res_6_B => .kept
  | .res_6_C => .kept
  | .res_6_D => .kept
  | .res_6_E => .kept
  | .res_6_H => .kept
  | .res_6_L => .kept
  | .res_6_mHL => .kept
  | .res_6_A => .kept
  | .res_7_B => .kept
  | .res_7_C => .kept
  | .res_7_D => .kept
  | .res_7_E => .kept
  | .res_7_H => .kept
  | .res_7_L => .kept
  | .res_7_mHL => .kept
  | .res_7_A => .kept
  | .set_0_B => .kept
  | .set_0_C => .kept
  | .set_0_D => .kept
  | .set_0_E => .kept
  | .set_0_H => .kept
  | .set_0_L => .kept
  | .set_0_mHL => .kept
  | .set_0_A => .kept
  | .set_1_B => .kept
  | .set_1_C => .kept
  | .set_1_D => .kept
  | .set_1_E => .kept
  | .set_1_H => .kept
  | .set_1_L => .kept
  | .set_1_mHL => .kept
  | .set_1_A => .kept
  | .set_2_B => .kept
  | .set_2_C => .kept
  | .set_2_D => .kept
  | .set_2_E => .kept
  | .set_2_H => .kept
  | .set_2_L => .kept
  | .set_2_mHL => .kept
  | .set_2_A => .kept
  | .set_3_B => .kept
  | .set_3_C => .kept
  | .set_3_D => .kept
  | .set_3_E => .kept
  | .set_3_H => .kept
  | .set_3_L => .kept
  | .set_3_mHL => .kept
  | .set_3_A => .kept
  | .set_4_B => .kept
  | .set_4_C => .kept
  | .set_4_D => .kept
  | .set_4_E => .kept
  | .set_4_H => .kept
  | .set_4_L => .kept
  | .set_4_mHL => .kept
  | .set_4_A => .kept
  | .set_5_B => .kept
  | .set_5_C => .kept
  | .set_5_D => .kept
  | .set_5_E => .kept
  | .set_5_H => .kept
  | .set_5_L => .kept
  | .set_5_mHL => .kept
  | .set_5_A => .kept
  | .set_6_B => .kept
  | .set_6_C => .kept
  | .set_6_D => .kept
  | .set_6_E => .kept
  | .set_6_H => .kept
  | .set_6_L => .kept
  | .set_6_mHL => .kept
  | .set_6_A => .kept
  | .set_7_B => .kept
  | .set_7_C => .kept
  | .set_7_D => .kept
  | .set_7_E => .kept
  | .set_7_H => .kept
  | .set_7_L => .kept
  | .set_7_mHL => .kept
  | .set_7_A => .kept

/-! ### Field codes (30_encoding.md R124 to R127, R130, R134) -/

/-- The 3-bit register code (R124). -/
def regCode : R8 → BitVec 3
  | .B => 0
  | .C => 1
  | .D => 2
  | .E => 3
  | .H => 4
  | .L => 5
  | .mHL => 6
  | .A => 7

/-- The 2-bit pair code of R125. -/
def pairCode : R16 → BitVec 2
  | .BC => 0
  | .DE => 1
  | .HL => 2
  | .SP => 3

/-- The 2-bit pair code of R126. -/
def stackCode : R16Stk → BitVec 2
  | .BC => 0
  | .DE => 1
  | .HL => 2
  | .AF => 3

/-- The 2-bit condition code (R127). -/
def condCode : Cond → BitVec 2
  | .NZ => 0
  | .Z => 1
  | .NC => 2
  | .C => 3

/-- The 3-bit ALU operation code (R130). -/
def aluCode : AluOp → BitVec 3
  | .add => 0
  | .adc => 1
  | .sub => 2
  | .sbc => 3
  | .and => 4
  | .xor => 5
  | .or => 6
  | .cp => 7

/-- The 3-bit code of a CB rotate or shift (R134). -/
def shiftCode : ShiftOp → BitVec 3
  | .rlc => 0
  | .rrc => 1
  | .rl => 2
  | .rr => 3
  | .sla => 4
  | .sra => 5
  | .swap => 6
  | .srl => 7

/-- A bit index or RST index as 3 bits (R123). -/
def idxCode (b : Idx8) : BitVec 3 := BitVec.ofNat 3 b.toNat

/-! ### The next instruction -/

/-- The next step fetches and runs `i`: the core is running, no dispatch is due, no HALT bug waits, the bytes at PC decode to
`i`, and reading them neither stops nor draws (30_encoding.md R121, 60_exceptions.md R370). -/
structure AtInstruction (i : Instr) (s : State) : Prop where
  running : s.halted = false
  undisturbed : dispatchDue s = none
  noHaltBug : s.haltBugPending = false
  decodes : ∃ rest, decode [stored s.pc s, stored (s.pc + 1) s, stored (s.pc + 2) s] = .ok (i, rest)
  fetchable : ∀ k, k < (encode i).length →
    open_ (s.pc + BitVec.ofNat 16 k) s ∧ drawn (s.pc + BitVec.ofNat 16 k) s = false

/-- The state in which that instruction's effect starts: PC is the address of the next instruction. -/
def afterFetch (i : Instr) (s : State) : State := { s with pc := s.pc + BitVec.ofNat 16 (encode i).length }

/-! ### AdvanceTimers as R380 writes it, with fuel for each loop -/

/-- `while divAccum >= 256: divAccum <- divAccum - 256; divider <- (divider + 1) mod 2^16`. -/
def divLoop : Nat → State → State
  | 0, s => s
  | fuel + 1, s =>
    if s.divAccum ≥ 256 then divLoop fuel { s with divAccum := s.divAccum - 256, divider := s.divider + 1 } else s

/-- `while timerAccum >= p: timerAccum <- timerAccum - p`, and one increment of TIMA or one overflow each time round. -/
def timerLoop (p : Nat) : Nat → State → State
  | 0, s => s
  | fuel + 1, s =>
    if s.timerAccum ≥ p then
      timerLoop p fuel
        (if s.tima = 0xFF then { s with timerAccum := s.timerAccum - p, tima := s.tma, ifr := s.ifr ||| 0x04 }
         else { s with timerAccum := s.timerAccum - p, tima := s.tima + 1 })
    else s

/-- The divider's case of R380; as much fuel as the accumulator holds is enough for the loop. -/
def dividerByLoop (n : Nat) (s : State) : State :=
  match s.cfg.divMode with
  | .literal => divLoop (s.divAccum + n) { s with divAccum := s.divAccum + n }
  | .cycleCounter => { s with divider := BitVec.ofNat 16 (s.divider.toNat + n) }

/-- `Period` of TAC[1:0] (R384). -/
def periodOf (tac : Byte) : Nat :=
  match tac.toNat % 4 with
  | 0 => 1024
  | 1 => 16
  | 2 => 64
  | _ => 256

/-- The timer counter's case of R380. -/
def timerByLoop (n : Nat) (s : State) : State :=
  if s.tac.getLsbD 2 then timerLoop (periodOf s.tac) (s.timerAccum + n) { s with timerAccum := s.timerAccum + n } else s

/-- `AdvanceTimers(cycles)`, line by line (R380). -/
def timersByLoop (cycles : Nat) (s : State) : State :=
  timerByLoop (cycles * s.cfg.timerTicksPerCycle) (dividerByLoop (cycles * s.cfg.timerTicksPerCycle) s)

/-! ### The invariant -/

/-- A key of the array `mem`: the CPU address of a byte of video RAM, working RAM, a device's I/O byte or high RAM. -/
def plainKey (k : Nat) : Bool := decide (k < 0x10000) && isPlain (BitVec.ofNat 16 k)

/-- What holds of every state between two steps. -/
structure Inv (s : State) : Prop where
  /-- the flag byte's low nibble is 0 (10_state.md R22) -/
  flagNibble : s.f &&& 0x0F = 0
  /-- `primary` is never 0 (R38, 20_memory.md R81) -/
  primaryNonzero : s.primary ≠ 0
  /-- `divAccum` is in [0, 256) (R37) -/
  divAccumBound : s.divAccum < 256
  /-- `timerAccum` is below the selected period while the timer is enabled (R37) -/
  timerAccumBound : timerOn s = true → s.timerAccum < period s.tac
  /-- `eiPending` is absent under EI_DELAY = 0 (R32) -/
  eiAbsent : s.cfg.eiDelay = .none → s.eiPending = false
  /-- `haltBugPending` is absent under HALT_BUG_MODE = Rewind (R32) -/
  haltBugAbsent : s.cfg.haltBugMode = .rewind → s.haltBugPending = false
  /-- the arrays are in canonical form and list no byte outside themselves (R39) -/
  memCanonical : s.mem.wf = true
  memInside : s.mem.keysIn plainKey = true
  cartRamCanonical : s.cartRam.wf = true
  cartRamInside : (s.cartRam.keysIn fun k => decide (k < s.cart.ramSize.bytes)) = true
  cartWf : s.cart.wf = true

end Sys2Proof.Machine
end

