-- ==== Sys2Proof/Certificates/Slice0/Obligations.lean ====
section
/-! DEFINITION. The statements for the provers. Each docstring names the rule of spec/ it formalises, or says that it is
derived. `exec` runs in the state after the fetch, so `s.pc` there is the address after the instruction (R26, R121). -/

open Sys2Proof Sys2Proof.Machine

/-! ### Reset and load -/

/-- R43: after power-on with any parameters, any image that loads, and any drawn RAM contents, every register, flag,
interrupt, timer and mapper field has its reset value, the arrays hold the drawn bytes, and RESET_REGS defaults to the values
of the table. -/
def Obligations.PowerOnSetsEveryField : Prop :=
  (∀ (cfg : Config) (img : Image) (ram cartRam : Memory) (env : List EnvInput) (cart : Cartridge),
    loadCartridge img = .ok cart →
    ∃ s, powerOn cfg img ram cartRam env = .ok s ∧
      s.ime = false ∧ s.halted = false ∧ s.eiPending = false ∧ s.haltBugPending = false ∧
      s.a = cfg.resetRegs.a ∧ s.f = cfg.resetRegs.f &&& 0xF0 ∧ s.b = cfg.resetRegs.b ∧ s.c = cfg.resetRegs.c ∧
      s.d = cfg.resetRegs.d ∧ s.e = cfg.resetRegs.e ∧ s.h = cfg.resetRegs.h ∧ s.l = cfg.resetRegs.l ∧
      s.sp = cfg.resetRegs.sp ∧ s.pc = cfg.resetRegs.pc ∧ s.ie = 0 ∧ s.ifr = 0 ∧ s.divider = 0 ∧
      s.tima = 0 ∧ s.tma = 0 ∧ s.tac = 0 ∧ s.timerAccum = 0 ∧ s.divAccum = 0 ∧
      s.ramEnabled = false ∧ s.primary = 1 ∧ s.secondary = 0 ∧ s.mode = .simple ∧
      s.mem = ram ∧ s.cartRam = cartRam ∧ s.cfg = cfg ∧ s.cart = cart) ∧
  Config.default.resetRegs =
    { a := 0x01, f := 0xB0, b := 0x00, c := 0x13, d := 0x00, e := 0xD8, h := 0x01, l := 0x4D, sp := 0xFFFE, pc := 0x0100 }

/-- The model's choice of log 4 and log 5 for what the spec leaves open: State.reset is the power-on (R420) of the all-zero
32 KiB image of vector V-RST-1 with every parameter at its default, no RAM byte listed and no input from the environment; and it
meets the invariant. -/
def Obligations.ResetIsThePowerOnStateAndMeetsTheInvariant : Prop :=
  powerOn Config.default { bytes := [], length := 0x8000 } [] [] [] = .ok State.reset ∧ Inv State.reset

/-- Derived from R22, R32, R37, R38, R39, R43: power-on with any parameters and image that loads gives a state that meets the
invariant, when the image and the drawn RAM contents are in canonical form and lie inside their arrays. -/
def Obligations.PowerOnMeetsTheInvariant : Prop :=
  ∀ (cfg : Config) (img : Image) (ram cartRam : Memory) (env : List EnvInput) (s : State),
    powerOn cfg img ram cartRam env = .ok s →
    img.bytes.wf = true → (img.bytes.keysIn fun k => decide (k < img.length)) = true →
    ram.wf = true → ram.keysIn plainKey = true →
    cartRam.wf = true → (cartRam.keysIn fun k => decide (k < s.cart.ramSize.bytes)) = true →
    Inv s

/-- R95, R96, R97: an image loads exactly when its cartridge-type byte is 0x00 to 0x03, its ROM-size byte at most 0x08, its
length the one that byte declares and its RAM-size byte one of the table; the cartridge then has the mapper, the bank bits and
the RAM bytes those bytes say, and power-on of any other image ends in LoadRefused. -/
def Obligations.ImageLoadsExactlyWhenTheHeaderIsKnown : Prop :=
  (∀ (img : Image) (cart : Cartridge),
    loadCartridge img = .ok cart ↔
      (img.bytes.read 0x0147).toNat ≤ 3 ∧ (img.bytes.read 0x0148).toNat ≤ 8 ∧
      img.length = 0x8000 * 2 ^ (img.bytes.read 0x0148).toNat ∧
      cart.kind = (if img.bytes.read 0x0147 = 0 then MapperKind.romOnly else MapperKind.mbc1) ∧
      cart.romBankBits = 1 + (img.bytes.read 0x0148).toNat ∧ cart.rom = img.bytes ∧
      ((img.bytes.read 0x0149 = 0x00 ∧ cart.ramSize.bytes = 0) ∨
        (img.bytes.read 0x0149 = 0x02 ∧ cart.ramSize.bytes = 0x2000) ∨
        (img.bytes.read 0x0149 = 0x03 ∧ cart.ramSize.bytes = 0x8000) ∨
        (img.bytes.read 0x0149 = 0x04 ∧ cart.ramSize.bytes = 0x20000) ∨
        (img.bytes.read 0x0149 = 0x05 ∧ cart.ramSize.bytes = 0x10000))) ∧
  (∀ (cfg : Config) (img : Image) (ram cartRam : Memory) (env : List EnvInput),
    (∀ cart, loadCartridge img ≠ .ok cart) →
    ∃ why, powerOn cfg img ram cartRam env = .error (.loadRefused why))

/-! ### Encoding -/

/-- Sanity: words written out from the spec's encodings decode to the instructions they stand for, one or more per family. -/
def Obligations.KnownWordsDecode : Prop :=
  decode [0x01, 0x34, 0x12] = .ok (.ld_BC_u16 0x1234, []) ∧ decode [0x41] = .ok (.ld_B_C, []) ∧
  decode [0x8E] = .ok (.adc_A_mHL, []) ∧ decode [0xFE, 0x40] = .ok (.cp_u8 0x40, []) ∧
  decode [0x39] = .ok (.add_HL_SP, []) ∧ decode [0xF8, 0xFE] = .ok (.ld_HL_SPi8 0xFE, []) ∧
  decode [0x17] = .ok (.rla, []) ∧ decode [0xCB, 0x36] = .ok (.swap_mHL, []) ∧
  decode [0xCB, 0x5E] = .ok (.bit_3_mHL, []) ∧ decode [0xCB, 0x87] = .ok (.res_0_A, []) ∧
  decode [0xCB, 0xC0] = .ok (.set_0_B, []) ∧ decode [0x20, 0xFC] = .ok (.jr_NZ_i8 0xFC, []) ∧
  decode [0xDC, 0x00, 0x30] = .ok (.call_C_u16 0x3000, []) ∧ decode [0x76] = .ok (.halt, []) ∧
  decode [0x10, 0x00] = .ok (.stop 0x00, []) ∧ decode [0xDD] = .ok (.unused_DD, [])

/-- Derived from R124 to R131, R134: in the formats whose operands stand in the opcode, the first byte, or the byte after 0xCB, is
the fixed bits with the register, pair, condition, operation and index codes in their fields; in the fixed-opcode formats B1, B2
and B3 it is the row's own opcode; and immediates follow, low byte first. -/
def Obligations.OpcodesFollowTheFormats : Prop :=
  (∀ d r : R8, ¬ (d = .mHL ∧ r = .mHL) → encode (ldRow d r) = [1#2 ++ regCode d ++ regCode r]) ∧
  (∀ (d : R8) (n : Byte), encode (ldImmRow d n) = [0#2 ++ regCode d ++ 6#3, n] ∧
    encode (incRow d) = [0#2 ++ regCode d ++ 4#3] ∧ encode (decRow d) = [0#2 ++ regCode d ++ 5#3]) ∧
  (∀ (op : AluOp) (r : R8) (n : Byte), encode (aluRow op r) = [2#2 ++ aluCode op ++ regCode r] ∧
    encode (aluImmRow op n) = [3#2 ++ aluCode op ++ 6#3, n]) ∧
  (∀ (p : R16) (nn : Word), encode (ldImm16Row p nn) = [0#2 ++ pairCode p ++ 1#4, nn.extractLsb' 0 8, nn.extractLsb' 8 8] ∧
    encode (inc16Row p) = [0#2 ++ pairCode p ++ 3#4] ∧ encode (addHLRow p) = [0#2 ++ pairCode p ++ 9#4] ∧
    encode (dec16Row p) = [0#2 ++ pairCode p ++ 11#4]) ∧
  (∀ p : R16Stk, encode (popRow p) = [3#2 ++ stackCode p ++ 1#4] ∧ encode (pushRow p) = [3#2 ++ stackCode p ++ 5#4]) ∧
  (∀ (cc : Cond) (e : Byte) (nn : Word), encode (jrRow cc e) = [1#3 ++ condCode cc ++ 0#3, e] ∧
    encode (retRow cc) = [6#3 ++ condCode cc ++ 0#3] ∧
    encode (jpRow cc nn) = [6#3 ++ condCode cc ++ 2#3, nn.extractLsb' 0 8, nn.extractLsb' 8 8] ∧
    encode (callRow cc nn) = [6#3 ++ condCode cc ++ 4#3, nn.extractLsb' 0 8, nn.extractLsb' 8 8]) ∧
  (∀ t : Idx8, encode (rstRow t) = [3#2 ++ idxCode t ++ 7#3]) ∧
  (∀ (op : ShiftOp) (b : Idx8) (r : R8), encode (shiftRow op r) = [0xCB, 0#2 ++ shiftCode op ++ regCode r] ∧
    encode (bitRow b r) = [0xCB, 1#2 ++ idxCode b ++ regCode r] ∧ encode (resRow b r) = [0xCB, 2#2 ++ idxCode b ++ regCode r] ∧
    encode (setRow b r) = [0xCB, 3#2 ++ idxCode b ++ regCode r]) ∧
  (∀ row ∈
      [(Instr.nop, (0x00 : Byte)), (.ld_mBC_A, 0x02), (.rlca, 0x07), (.ld_A_mBC, 0x0A), (.rrca, 0x0F), (.ld_mDE_A, 0x12),
       (.rla, 0x17), (.ld_A_mDE, 0x1A), (.rra, 0x1F), (.ld_mHLinc_A, 0x22), (.daa, 0x27), (.ld_A_mHLinc, 0x2A),
       (.cpl, 0x2F), (.ld_mHLdec_A, 0x32), (.scf, 0x37), (.ld_A_mHLdec, 0x3A), (.ccf, 0x3F), (.halt, 0x76), (.ret, 0xC9),
       (.prefix_CB, 0xCB), (.unused_D3, 0xD3), (.reti, 0xD9), (.unused_DB, 0xDB), (.unused_DD, 0xDD), (.ld_mC_A, 0xE2),
       (.unused_E3, 0xE3), (.unused_E4, 0xE4), (.jp_HL, 0xE9), (.unused_EB, 0xEB), (.unused_EC, 0xEC),
       (.unused_ED, 0xED), (.ld_A_mC, 0xF2), (.di, 0xF3), (.unused_F4, 0xF4), (.ld_SP_HL, 0xF9), (.ei, 0xFB),
       (.unused_FC, 0xFC), (.unused_FD, 0xFD)],
    encode row.1 = [row.2]) ∧
  (∀ n : Byte, encode (.stop n) = [0x10, n] ∧ encode (.jr_i8 n) = [0x18, n] ∧ encode (.ldh_mU8_A n) = [0xE0, n] ∧
    encode (.add_SP_i8 n) = [0xE8, n] ∧ encode (.ldh_A_mU8 n) = [0xF0, n] ∧ encode (.ld_HL_SPi8 n) = [0xF8, n]) ∧
  (∀ row ∈ [(Instr.ld_mU16_SP, (0x08 : Byte)), (.jp_u16, 0xC3), (.call_u16, 0xCD), (.ld_mU16_A, 0xEA), (.ld_A_mU16, 0xFA)],
    ∀ nn : Word, encode (row.1 nn) = [row.2, nn.extractLsb' 0 8, nn.extractLsb' 8 8])

/-- Derived from R120 to R134: decoding the encoding of a whole instruction, with any bytes after it, gives the instruction
back with every operand, and the bytes after it. -/
def Obligations.DecodeOfEncodeIsTheInstruction : Prop :=
  ∀ (i : Instr) (rest : List Byte), i.wellFormed = true → decode (encode i ++ rest) = .ok (i, rest)

/-- Derived from R120, R133, R135: every opcode byte decodes once enough bytes follow; the instruction is a whole one (never
the bare prefix), its length, 1, 2 or 3, depends on the first byte alone and is 2 after 0xCB, its encoding is exactly the
bytes consumed, and it is one of the eleven unused slots exactly for the eleven bytes of R133, each of length 1. -/
def Obligations.EveryByteSequenceDecodesAtItsLength : Prop :=
  ∀ op : Byte, ∃ n, (n = 1 ∨ n = 2 ∨ n = 3) ∧ (op = 0xCB → n = 2) ∧
    (op ∈ [(0xD3 : Byte), 0xDB, 0xDD, 0xE3, 0xE4, 0xEB, 0xEC, 0xED, 0xF4, 0xFC, 0xFD] → n = 1) ∧
    ∀ (b1 b2 : Byte) (rest : List Byte), ∃ i,
      decode (op :: b1 :: b2 :: rest) = .ok (i, (op :: b1 :: b2 :: rest).drop n) ∧
      encode i = (op :: b1 :: b2 :: rest).take n ∧ i.wellFormed = true ∧
      (i ∈ [Instr.unused_D3, .unused_DB, .unused_DD, .unused_E3, .unused_E4, .unused_EB, .unused_EC, .unused_ED, .unused_F4,
          .unused_FC, .unused_FD] ↔
        op ∈ [(0xD3 : Byte), 0xDB, 0xDD, 0xE3, 0xE4, 0xEB, 0xEC, 0xED, 0xF4, 0xFC, 0xFD])

/-- Derived from R121, R370, R390, R391: when the next step runs `i`, it is exec of `i` with PC moved past its bytes, then, under
EI_DELAY = 1, the enabling of a waiting EI that `i` did not cancel, then AdvanceTimers with the Step's count, then the
environment's turn. -/
def Obligations.StepRunsTheDecodedInstruction : Prop :=
  ∀ (s : State) (i : Instr), AtInstruction i s →
    step s = andThen (exec i (afterFetch i s)) fun t =>
      let u := if s.cfg.eiDelay = .oneInstruction ∧ s.eiPending = true ∧ t.eiPending = true then
        { t with ime := true, eiPending := false } else t
      .next (envTurn (advanceTimers u.cycles u))

/-! ### Memory: the Bus and the bank controller -/

/-- R67, R68, R69: a byte written to video RAM, working RAM or high RAM is read back, and the write changes nothing but the array;
and (R63) a write to any address from 0x8000 up changes what no other address reads as. -/
def Obligations.PlainStorageReadsBackAndStoresAreLocal : Prop :=
  ∀ (a b : Word) (v : Byte) (s : State), Inv s →
    ((0x8000 ≤ a.toNat ∧ a.toNat ≤ 0x9FFF) ∨ (0xC000 ≤ a.toNat ∧ a.toNat ≤ 0xDFFF) ∨ (0xFF80 ≤ a.toNat ∧ a.toNat ≤ 0xFFFE) →
      readByte a (store a v s) = v ∧ store a v s = { s with mem := (store a v s).mem }) ∧
    (0x8000 ≤ a.toNat → b ≠ a → stored b (store a v s) = stored b s)

/-- Derived from R70, R71, R382: DIV reads the divider's high byte and any write clears the divider alone; TIMA, TMA, TAC, IF and
IE are read and written whole; every other byte of the I/O block is plain storage under IO_READ_MODEL = Storage and, under Draw,
each read of it is a free byte, in the form the model chose in log 12: the next of the opaque drawn bytes, counted in `draws`. -/
def Obligations.IoRegistersReadAndWrite : Prop :=
  ∀ (a : Word) (v : Byte) (s : State), Inv s →
    (readByte 0xFF04 s = s.divider.extractLsb' 8 8 ∧ store 0xFF04 v s = { s with divider := 0 }) ∧
    (readByte 0xFF05 s = s.tima ∧ store 0xFF05 v s = { s with tima := v }) ∧
    (readByte 0xFF06 s = s.tma ∧ store 0xFF06 v s = { s with tma := v }) ∧
    (readByte 0xFF07 s = s.tac ∧ store 0xFF07 v s = { s with tac := v }) ∧
    (readByte 0xFF0F s = s.ifr ∧ store 0xFF0F v s = { s with ifr := v }) ∧
    (readByte 0xFFFF s = s.ie ∧ store 0xFFFF v s = { s with ie := v }) ∧
    (0xFF00 ≤ a.toNat → a.toNat ≤ 0xFF7F → a ∉ [(0xFF04 : Word), 0xFF05, 0xFF06, 0xFF07, 0xFF0F] →
      store a v s = { s with mem := (store a v s).mem } ∧ stored a (store a v s) = v ∧
      (s.cfg.ioReadModel = .storage → readByte a s = stored a s ∧ afterRead a s = s) ∧
      (s.cfg.ioReadModel = .draw →
        readByte a s = Config.drawnByte s.draws ∧ afterRead a s = { s with draws := s.draws + 1 }))

/-- R66: an access to 0xE000 to 0xFEFF reads 0xFF and writes nothing under UNMAPPED_POLICY = OpenBus, and stops under Fault,
whatever comes after the access; so a load of A from such an address stops under Fault. -/
def Obligations.UnmappedRangeIsOpenBusOrFault : Prop :=
  ∀ (a : Word) (v : Byte) (s : State) (k : Byte → State → Out) (k' : State → Out), 0xE000 ≤ a.toNat → a.toNat ≤ 0xFEFF →
    (s.cfg.unmappedPolicy = .openBus → read8 a s k = k 0xFF s ∧ write8 a v s k' = k' s) ∧
    (s.cfg.unmappedPolicy = .fault → read8 a s k = .fault (.unmappedAccess a) ∧ write8 a v s k' = .fault (.unmappedAccess a) ∧
      exec (.ld_A_mU16 a) s = .fault (.unmappedAccess a))

/-- R80 to R83: a write to 0x0000 to 0x7FFF of an MBC1 cartridge sets one register and nothing else: RAM enable from the low
nibble, the 5-bit primary bank with 0 forced to 1, the 2-bit secondary bank, the mode bit. -/
def Obligations.Mbc1RegistersLatch : Prop :=
  ∀ (a : Word) (v : Byte) (s : State), s.cart.kind = .mbc1 →
    (a.toNat ≤ 0x1FFF → store a v s = { s with ramEnabled := decide (v.toNat % 16 = 10) }) ∧
    (0x2000 ≤ a.toNat → a.toNat ≤ 0x3FFF →
      store a v s = { s with primary := if v.toNat % 32 = 0 then 1 else BitVec.ofNat 5 (v.toNat % 32) }) ∧
    (0x4000 ≤ a.toNat → a.toNat ≤ 0x5FFF → store a v s = { s with secondary := BitVec.ofNat 2 (v.toNat % 4) }) ∧
    (0x6000 ≤ a.toNat → a.toNat ≤ 0x7FFF →
      store a v s = { s with mode := if v.toNat % 2 = 1 then .advanced else .simple })

/-- R85, R86: an MBC1 cartridge's lower window reads bank 0 in simple mode and bank `secondary * 32` modulo the bank count in
advanced mode, its upper window bank `secondary * 32 + primary` modulo the bank count in both, each at `bank * 0x4000` in the
image, and the offset is inside the image. -/
def Obligations.Mbc1RomWindowsFollowTheBanks : Prop :=
  ∀ (a : Word) (s : State), s.cart.kind = .mbc1 →
    let banks := 2 ^ s.cart.romBankBits
    let low := if s.mode = .simple then 0 else s.secondary.toNat * 32 % banks
    let high := (s.secondary.toNat * 32 + s.primary.toNat) % banks
    (a.toNat ≤ 0x3FFF →
      readByte a s = s.cart.rom.read (low * 0x4000 + a.toNat) ∧ low * 0x4000 + a.toNat < 0x8000 * 2 ^ s.cart.romSize.val) ∧
    (0x4000 ≤ a.toNat → a.toNat ≤ 0x7FFF →
      readByte a s = s.cart.rom.read (high * 0x4000 + (a.toNat - 0x4000)) ∧
        high * 0x4000 + (a.toNat - 0x4000) < 0x8000 * 2 ^ s.cart.romSize.val)

/-- R84, R88: the RAM window of an MBC1 cartridge reads 0xFF and discards writes while RAM is disabled or absent; otherwise it reads
and writes one byte of RAM, in bank 0 in simple mode and bank `secondary` modulo the bank count in advanced mode, and the offset
is inside the RAM. -/
def Obligations.CartridgeRamFollowsEnableAndBank : Prop :=
  ∀ (a : Word) (v : Byte) (s : State), Inv s → s.cart.kind = .mbc1 → 0xA000 ≤ a.toNat → a.toNat ≤ 0xBFFF →
    let bank := if s.mode = .simple then 0 else s.secondary.toNat % 2 ^ s.cart.ramSize.bankBits
    let offset := bank * 0x2000 + (a.toNat - 0xA000)
    (s.ramEnabled = false ∨ s.cart.ramSize.bytes = 0 → readByte a s = 0xFF ∧ store a v s = s) ∧
    (s.ramEnabled = true → 0 < s.cart.ramSize.bytes →
      readByte a s = s.cartRam.read offset ∧ store a v s = { s with cartRam := s.cartRam.write offset v } ∧
      readByte a (store a v s) = v ∧ offset < s.cart.ramSize.bytes)

/-- R91: a cartridge without a mapper reads its image directly, ignores writes to 0x0000 to 0x7FFF, and its RAM window reads 0xFF
and discards writes. -/
def Obligations.RomOnlyCartridgeHasNoMapper : Prop :=
  ∀ (a : Word) (v : Byte) (s : State), s.cart.kind = .romOnly →
    (a.toNat ≤ 0x7FFF → readByte a s = s.cart.rom.read a.toNat ∧ store a v s = s) ∧
    (0xA000 ≤ a.toNat → a.toNat ≤ 0xBFFF → readByte a s = 0xFF ∧ store a v s = s)

/-! ### Loads, stores, stack -/

/-- R160 to R164: LD r,r', LD r,(HL), LD (HL),r, LD r,u8 and LD (HL),u8 move one byte to the operand `d` and change nothing else
(but the Step's count). -/
def Obligations.LoadMovesOneByte : Prop :=
  ∀ (d r : R8) (n : Byte) (s : State), opndOpen d s →
    (¬ (d = .mHL ∧ r = .mHL) → opndOpen r s →
      exec (ldRow d r) s =
        .next { put d (opnd r s) (afterOpnd r s) with
          cycles := costOf (ldRow d r) (if d = .mHL ∨ r = .mHL then 2 else 1) s }) ∧
    exec (ldImmRow d n) s = .next { put d n s with cycles := costOf (ldImmRow d n) (byOperand d 2 3) s }

/-- R165 to R174: A is loaded from, or stored at, BC, DE, an absolute address, `0xFF00 + u8` and `0xFF00 + C`. -/
def Obligations.AccumulatorLoadsAndStores : Prop :=
  ∀ (s : State) (ld st : Instr) (addr : Word) (dflt : Nat),
    (ld, st, addr, dflt) ∈
        [(Instr.ld_A_mBC, Instr.ld_mBC_A, s.b ++ s.c, 2), (.ld_A_mDE, .ld_mDE_A, s.d ++ s.e, 2),
          (.ld_A_mC, .ld_mC_A, 0xFF00 + s.c.setWidth 16, 2)] ∨
      (∃ nn, (ld, st, addr, dflt) = (.ld_A_mU16 nn, .ld_mU16_A nn, nn, 4)) ∨
      (∃ n : Byte, (ld, st, addr, dflt) = (.ldh_A_mU8 n, .ldh_mU8_A n, 0xFF00 + n.setWidth 16, 3)) →
    open_ addr s →
    exec ld s = .next { afterRead addr s with a := readByte addr s, cycles := costOf ld dflt s } ∧
    exec st s = .next { store addr s.a s with cycles := costOf st dflt s }

/-- R175 to R178: the access uses the old HL, and HL then goes up or down by 1 modulo 2^16. -/
def Obligations.HlStepsAfterTheAccess : Prop :=
  ∀ s : State, open_ (regHL s) s →
    exec .ld_mHLinc_A s = .next { setHL (regHL s + 1) (store (regHL s) s.a s) with cycles := costOf .ld_mHLinc_A 2 s } ∧
    exec .ld_mHLdec_A s = .next { setHL (regHL s - 1) (store (regHL s) s.a s) with cycles := costOf .ld_mHLdec_A 2 s } ∧
    exec .ld_A_mHLinc s = .next { setHL (regHL s + 1) (afterRead (regHL s) s) with
      a := readByte (regHL s) s, cycles := costOf .ld_A_mHLinc 2 s } ∧
    exec .ld_A_mHLdec s = .next { setHL (regHL s - 1) (afterRead (regHL s) s) with
      a := readByte (regHL s) s, cycles := costOf .ld_A_mHLdec 2 s }

/-- R179, R180, R183: LD rr,u16 puts the immediate's high byte in the high register and its low byte in the low one, or the whole
in SP; LD SP,HL copies HL; LD (u16),SP stores SP's low byte at `nn`, then its high byte at `nn + 1` modulo 2^16. -/
def Obligations.LoadPairImmediateAndSp : Prop :=
  ∀ (nn : Word) (s : State),
    exec (.ld_BC_u16 nn) s = .next { s with b := nn.extractLsb' 8 8, c := nn.extractLsb' 0 8, cycles := costOf (.ld_BC_u16 nn) 3 s } ∧
    exec (.ld_DE_u16 nn) s = .next { s with d := nn.extractLsb' 8 8, e := nn.extractLsb' 0 8, cycles := costOf (.ld_DE_u16 nn) 3 s } ∧
    exec (.ld_HL_u16 nn) s = .next { s with h := nn.extractLsb' 8 8, l := nn.extractLsb' 0 8, cycles := costOf (.ld_HL_u16 nn) 3 s } ∧
    exec (.ld_SP_u16 nn) s = .next { s with sp := nn, cycles := costOf (.ld_SP_u16 nn) 3 s } ∧
    exec .ld_SP_HL s = .next { s with sp := s.h ++ s.l, cycles := costOf .ld_SP_HL 2 s } ∧
    (open_ nn s → open_ (nn + 1) s →
      exec (.ld_mU16_SP nn) s =
        .next { store (nn + 1) (s.sp.extractLsb' 8 8) (store nn (s.sp.extractLsb' 0 8) s) with
          cycles := costOf (.ld_mU16_SP nn) 5 s })

/-- R181: PUSH rr lowers SP by 2, stores the pair's low byte at the new SP and its high byte above it; F is pushed with its low
nibble 0. -/
def Obligations.PushStoresThePair : Prop :=
  ∀ s : State, pushOpen s →
    exec .push_BC s = .next { pushed (s.b ++ s.c) s with cycles := costOf .push_BC 4 s } ∧
    exec .push_DE s = .next { pushed (s.d ++ s.e) s with cycles := costOf .push_DE 4 s } ∧
    exec .push_HL s = .next { pushed (s.h ++ s.l) s with cycles := costOf .push_HL 4 s } ∧
    exec .push_AF s = .next { pushed (s.a ++ (s.f &&& 0xF0)) s with cycles := costOf .push_AF 4 s }

/-- R182: POP rr reads the low byte at SP and the high byte at SP + 1, raises SP by 2 and writes the pair; POP AF masks F's low
nibble to zero. -/
def Obligations.PopLoadsThePair : Prop :=
  ∀ s : State, popOpen s →
    exec .pop_BC s = .next { afterPop s with b := (popped s).extractLsb' 8 8, c := (popped s).extractLsb' 0 8, cycles := costOf .pop_BC 3 s } ∧
    exec .pop_DE s = .next { afterPop s with d := (popped s).extractLsb' 8 8, e := (popped s).extractLsb' 0 8, cycles := costOf .pop_DE 3 s } ∧
    exec .pop_HL s = .next { afterPop s with h := (popped s).extractLsb' 8 8, l := (popped s).extractLsb' 0 8, cycles := costOf .pop_HL 3 s } ∧
    exec .pop_AF s = .next { afterPop s with a := (popped s).extractLsb' 8 8, f := (popped s).extractLsb' 0 8 &&& 0xF0, cycles := costOf .pop_AF 3 s }

/-- Derived from R181, R182, R305 to R310: with the two stack bytes in plain storage and no draw deciding a read, a POP of the
pair just PUSHed gives back the registers and SP (F's low nibble apart), and a RET right after a CALL, a taken CALL cc or an RST
comes back to the instruction after it with SP as before. -/
def Obligations.StackRoundTrips : Prop :=
  ∀ (r : R16Stk) (s t u : State) (i : Instr) (nn : Word) (cc : Cond) (x : Idx8), Inv s →
    isPlain (s.sp - 2) = true → isPlain (s.sp - 1) = true → s.cfg.ioReadModel = .storage →
    (exec (pushRow r) s = .next t → exec (popRow r) t = .next u →
      u.sp = s.sp ∧ u.a = s.a ∧ u.f &&& 0xF0 = s.f &&& 0xF0 ∧ u.b = s.b ∧ u.c = s.c ∧ u.d = s.d ∧ u.e = s.e ∧ u.h = s.h ∧
        u.l = s.l) ∧
    (i = .call_u16 nn ∨ (i = callRow cc nn ∧ cond cc s = true) ∨ i = rstRow x →
      exec i s = .next t → exec .ret t = .next u → u.pc = s.pc ∧ u.sp = s.sp)

/-! ### 8-bit arithmetic and logic -/

/-- R201 to R204: ADD and ADC, register, (HL) and immediate forms: the sum on unbounded integers modulo 256, H the carry out of
bit 3, C the carry out of bit 7, the carry-in of ADC counted in both; nothing else changes. -/
def Obligations.AddAndAdcCarryOut : Prop :=
  ∀ (s : State) (i : Instr) (v : Byte) (s' : State) (dflt cin : Nat),
    ((∃ r, opndOpen r s ∧ v = opnd r s ∧ s' = afterOpnd r s ∧ dflt = byOperand r 1 2 ∧
        ((i = aluRow .add r ∧ cin = 0) ∨ (i = aluRow .adc r ∧ cin = if s.f.getLsbD 4 then 1 else 0))) ∨
      (s' = s ∧ dflt = 2 ∧ ((i = .add_A_u8 v ∧ cin = 0) ∨ (i = .adc_A_u8 v ∧ cin = if s.f.getLsbD 4 then 1 else 0)))) →
    exec i s = .next { s' with
      a := BitVec.ofNat 8 (s.a.toNat + v.toNat + cin)
      f := flagByte (decide ((s.a.toNat + v.toNat + cin) % 256 = 0)) false
        (decide ((s.a &&& 0x0F).toNat + (v &&& 0x0F).toNat + cin > 0x0F)) (decide (s.a.toNat + v.toNat + cin > 0xFF))
      cycles := costOf i dflt s }

/-- R205 to R208: SUB and SBC, register, (HL) and immediate forms: the difference modulo 256, N = 1, H and C the borrows out of
bits 3 and 7, the borrow-in of SBC counted in both; nothing else changes. -/
def Obligations.SubAndSbcBorrowOut : Prop :=
  ∀ (s : State) (i : Instr) (v : Byte) (s' : State) (dflt cin : Nat),
    ((∃ r, opndOpen r s ∧ v = opnd r s ∧ s' = afterOpnd r s ∧ dflt = byOperand r 1 2 ∧
        ((i = aluRow .sub r ∧ cin = 0) ∨ (i = aluRow .sbc r ∧ cin = if s.f.getLsbD 4 then 1 else 0))) ∨
      (s' = s ∧ dflt = 2 ∧ ((i = .sub_u8 v ∧ cin = 0) ∨ (i = .sbc_A_u8 v ∧ cin = if s.f.getLsbD 4 then 1 else 0)))) →
    exec i s = .next { s' with
      a := s.a - v - BitVec.ofNat 8 cin
      f := flagByte (decide (s.a - v - BitVec.ofNat 8 cin = 0)) true
        (decide ((s.a &&& 0x0F).toNat < (v &&& 0x0F).toNat + cin)) (decide (s.a.toNat < v.toNat + cin))
      cycles := costOf i dflt s }

/-- R209 to R214: AND, XOR and OR, register, (HL) and immediate forms: Z from the result, N = 0, C = 0, H = 1 for AND and 0 for
XOR and OR. -/
def Obligations.LogicSetsFixedFlags : Prop :=
  ∀ (s : State) (i : Instr) (v res : Byte) (h : Bool) (s' : State) (dflt : Nat),
    ((∃ r, opndOpen r s ∧ v = opnd r s ∧ s' = afterOpnd r s ∧ dflt = byOperand r 1 2 ∧
        ((i = aluRow .and r ∧ res = s.a &&& v ∧ h = true) ∨ (i = aluRow .xor r ∧ res = s.a ^^^ v ∧ h = false) ∨
          (i = aluRow .or r ∧ res = s.a ||| v ∧ h = false))) ∨
      (s' = s ∧ dflt = 2 ∧
        ((i = .and_u8 v ∧ res = s.a &&& v ∧ h = true) ∨ (i = .xor_u8 v ∧ res = s.a ^^^ v ∧ h = false) ∨
          (i = .or_u8 v ∧ res = s.a ||| v ∧ h = false)))) →
    exec i s = .next { s' with a := res, f := flagByte (decide (res = 0)) false h false, cycles := costOf i dflt s }

/-- R215, R216: CP, register, (HL) and immediate forms: the flags of SUB, and A unchanged. -/
def Obligations.CompareKeepsA : Prop :=
  ∀ (s : State) (i : Instr) (v : Byte) (s' : State) (dflt : Nat),
    ((∃ r, opndOpen r s ∧ v = opnd r s ∧ s' = afterOpnd r s ∧ dflt = byOperand r 1 2 ∧ i = aluRow .cp r) ∨
      (s' = s ∧ dflt = 2 ∧ i = .cp_u8 v)) →
    exec i s = .next { s' with
      f := flagByte (decide (s.a = v)) true (decide ((s.a &&& 0x0F).toNat < (v &&& 0x0F).toNat)) (decide (s.a.toNat < v.toNat))
      cycles := costOf i dflt s }

/-- R217 to R220: INC and DEC of a register or the byte at HL: the byte modulo 256 goes back where it came from, Z from it, N = 0
or 1, H the carry or borrow of bit 3, C kept. -/
def Obligations.IncAndDecKeepCarry : Prop :=
  ∀ (r : R8) (s : State), opndOpen r s →
    exec (incRow r) s = .next { put r (opnd r s + 1) (afterOpnd r s) with
      f := flagByte (decide (opnd r s = 0xFF)) false (decide ((opnd r s).toNat % 16 = 15)) (s.f.getLsbD 4)
      cycles := costOf (incRow r) (byOperand r 1 3) s } ∧
    exec (decRow r) s = .next { put r (opnd r s - 1) (afterOpnd r s) with
      f := flagByte (decide (opnd r s = 1)) true (decide ((opnd r s).toNat % 16 = 0)) (s.f.getLsbD 4)
      cycles := costOf (decRow r) (byOperand r 1 3) s }

/-- R221: DAA on every A, N, H and C: after an addition (N = 0) 0x60 is added if C or A > 0x99 and 0x06 if H or the low nibble
exceeds 9, C being set with the 0x60; after a subtraction 0x60 is subtracted if C and 0x06 if H, C kept; Z from the result,
H = 0, N kept. -/
def Obligations.DaaAdjusts : Prop :=
  ∀ s : State,
    let n := s.f.getLsbD 6
    let h := s.f.getLsbD 5
    let c := s.f.getLsbD 4
    let up : Byte := (if c = true ∨ s.a.toNat > 0x99 then 0x60 else 0) + (if h = true ∨ s.a.toNat % 16 > 9 then 0x06 else 0)
    let down : Byte := (if c then 0x60 else 0) + (if h then 0x06 else 0)
    let res := if n then s.a - down else s.a + up
    exec .daa s = .next { s with
      a := res
      f := flagByte (decide (res = 0)) n false (if n then c else decide (c = true ∨ s.a.toNat > 0x99))
      cycles := costOf .daa 1 s }

/-- Derived from R201 to R204, R221: for two-digit decimal numbers x and y held as BCD bytes, y in any operand an ADD or ADC can
take (a register, the byte at HL or an immediate), that ADD or ADC followed by DAA leaves the BCD byte of (x + y + carry-in)
modulo 100 in A and the decimal carry in C. -/
def Obligations.DaaCorrectsDecimalAddition : Prop :=
  ∀ (s t u : State) (x y : Nat) (i : Instr) (v : Byte) (cin : Nat), x < 100 → y < 100 →
    s.a = BitVec.ofNat 8 (x / 10 * 16 + x % 10) → v = BitVec.ofNat 8 (y / 10 * 16 + y % 10) →
    (((i = .add_A_u8 v ∨ ∃ r, v = opnd r s ∧ i = aluRow .add r) ∧ cin = 0) ∨
      ((i = .adc_A_u8 v ∨ ∃ r, v = opnd r s ∧ i = aluRow .adc r) ∧ cin = if s.f.getLsbD 4 then 1 else 0)) →
    exec i s = .next t → exec .daa t = .next u →
    u.a = BitVec.ofNat 8 ((x + y + cin) % 100 / 10 * 16 + (x + y + cin) % 10) ∧
      u.f.getLsbD 4 = decide (x + y + cin ≥ 100)

/-- R222, R223, R224: CPL complements A with N = 1, H = 1; SCF and CCF set and complement C with N = 0, H = 0; the flags not
named are kept. -/
def Obligations.ComplementAndCarryFlagForms : Prop :=
  ∀ s : State,
    exec .cpl s = .next { s with a := ~~~s.a, f := flagByte (s.f.getLsbD 7) true true (s.f.getLsbD 4), cycles := costOf .cpl 1 s } ∧
    exec .scf s = .next { s with f := flagByte (s.f.getLsbD 7) false false true, cycles := costOf .scf 1 s } ∧
    exec .ccf s = .next { s with f := flagByte (s.f.getLsbD 7) false false (!s.f.getLsbD 4), cycles := costOf .ccf 1 s }

/-! ### 16-bit arithmetic -/

/-- R240: ADD HL,rr: the sum modulo 2^16, N = 0, H the carry out of bit 11, C the carry out of bit 15, Z kept. -/
def Obligations.AddHlCarriesFromBits11And15 : Prop :=
  ∀ (s : State) (r : R16) (v : Word),
    (r, v) ∈ [(R16.BC, s.b ++ s.c), (.DE, s.d ++ s.e), (.HL, s.h ++ s.l), (.SP, s.sp)] →
    let hl : Word := s.h ++ s.l
    exec (addHLRow r) s = .next { s with
      h := (hl + v).extractLsb' 8 8
      l := (hl + v).extractLsb' 0 8
      f := flagByte (s.f.getLsbD 7) false (decide ((hl &&& 0x0FFF).toNat + (v &&& 0x0FFF).toNat > 0x0FFF))
        (decide (hl.toNat + v.toNat > 0xFFFF))
      cycles := costOf (addHLRow r) 2 s }

/-- R241, R242: INC rr and DEC rr add and subtract 1 modulo 2^16 and write no flag. -/
def Obligations.IncAndDecPairWriteNoFlag : Prop :=
  ∀ (s : State) (delta : Word) (row : R16 → Instr), (delta = 1 ∧ row = inc16Row) ∨ (delta = -1 ∧ row = dec16Row) →
    let bc : Word := s.b ++ s.c + delta
    let de : Word := s.d ++ s.e + delta
    let hl : Word := s.h ++ s.l + delta
    exec (row .BC) s = .next { s with b := bc.extractLsb' 8 8, c := bc.extractLsb' 0 8, cycles := costOf (row .BC) 2 s } ∧
    exec (row .DE) s = .next { s with d := de.extractLsb' 8 8, e := de.extractLsb' 0 8, cycles := costOf (row .DE) 2 s } ∧
    exec (row .HL) s = .next { s with h := hl.extractLsb' 8 8, l := hl.extractLsb' 0 8, cycles := costOf (row .HL) 2 s } ∧
    exec (row .SP) s = .next { s with sp := s.sp + delta, cycles := costOf (row .SP) 2 s }

/-- R243, R244: ADD SP,i8 and LD HL,SP+i8 add the sign-extended displacement to SP modulo 2^16; Z = 0, N = 0, H and C from the
unsigned addition of the low byte; LD HL,SP+i8 leaves SP. -/
def Obligations.SpDisplacementFlagsFromLowByte : Prop :=
  ∀ (e : Byte) (s : State),
    let sum : Word := BitVec.ofInt 16 (s.sp.toNat + e.toInt)
    let f := flagByte false false (decide ((s.sp &&& 0x0F).toNat + (e &&& 0x0F).toNat > 0x0F))
      (decide ((s.sp &&& 0xFF).toNat + e.toNat > 0xFF))
    exec (.add_SP_i8 e) s = .next { s with sp := sum, f := f, cycles := costOf (.add_SP_i8 e) 4 s } ∧
    exec (.ld_HL_SPi8 e) s = .next { s with
      h := sum.extractLsb' 8 8, l := sum.extractLsb' 0 8, f := f, cycles := costOf (.ld_HL_SPi8 e) 3 s }

/-! ### Rotates, shifts, bits -/

/-- R260 to R263: the accumulator rotates, as arithmetic on A: C is the bit shifted out, the bit shifted in is that bit (RLCA,
RRCA) or the old C (RLA, RRA), and Z, N and H are 0. -/
def Obligations.AccumulatorRotatesForceZ : Prop :=
  ∀ s : State,
    let a := s.a.toNat
    let c := if s.f.getLsbD 4 then 1 else 0
    let left := flagByte false false false (decide (a ≥ 128))
    let right := flagByte false false false (decide (a % 2 = 1))
    exec .rlca s = .next { s with a := BitVec.ofNat 8 (2 * a + a / 128), f := left, cycles := costOf .rlca 1 s } ∧
    exec .rrca s = .next { s with a := BitVec.ofNat 8 (a / 2 + 128 * (a % 2)), f := right, cycles := costOf .rrca 1 s } ∧
    exec .rla s = .next { s with a := BitVec.ofNat 8 (2 * a + c), f := left, cycles := costOf .rla 1 s } ∧
    exec .rra s = .next { s with a := BitVec.ofNat 8 (a / 2 + 128 * c), f := right, cycles := costOf .rra 1 s }

/-- R264 to R271: RLC, RRC, RL, RR, SLA, SRA, SWAP and SRL of any operand, as arithmetic on the byte: it goes back where it came
from, C is the bit shifted out (0 for SWAP), Z from the result, N = H = 0. -/
def Obligations.CbRotatesAndShiftsRecomputeZ : Prop :=
  ∀ (r : R8) (s : State) (op : ShiftOp) (res : Nat) (out : Bool), opndOpen r s →
    let v := (opnd r s).toNat
    let c := if s.f.getLsbD 4 then 1 else 0
    (op, res, out) ∈
      [(ShiftOp.rlc, 2 * v % 256 + v / 128, decide (v ≥ 128)), (.rrc, v / 2 + 128 * (v % 2), decide (v % 2 = 1)),
        (.rl, 2 * v % 256 + c, decide (v ≥ 128)), (.rr, v / 2 + 128 * c, decide (v % 2 = 1)),
        (.sla, 2 * v % 256, decide (v ≥ 128)), (.sra, v / 2 + v / 128 * 128, decide (v % 2 = 1)),
        (.swap, v % 16 * 16 + v / 16, false), (.srl, v / 2, decide (v % 2 = 1))] →
    exec (shiftRow op r) s = .next { put r (BitVec.ofNat 8 res) (afterOpnd r s) with
      f := flagByte (decide (res = 0)) false false out
      cycles := costOf (shiftRow op r) (byOperand r 2 4) s }

/-- R272: BIT b,r: Z is the complement of the tested bit, N = 0, H = 1, C kept, and nothing is written back. -/
def Obligations.BitTestsOneBit : Prop :=
  ∀ (b : Idx8) (r : R8) (s : State), opndOpen r s →
    exec (bitRow b r) s = .next { afterOpnd r s with
      f := flagByte (decide ((opnd r s).toNat / 2 ^ b.toNat % 2 = 0)) false true (s.f.getLsbD 4)
      cycles := costOf (bitRow b r) (byOperand r 2 3) s }

/-- R273, R274: RES and SET clear and set the one bit of the operand, write it back and leave F. -/
def Obligations.ResAndSetChangeOneBit : Prop :=
  ∀ (b : Idx8) (r : R8) (s : State), opndOpen r s →
    (∃ v, exec (resRow b r) s = .next { put r v (afterOpnd r s) with cycles := costOf (resRow b r) (byOperand r 2 4) s } ∧
      ∀ k, v.getLsbD k = if k = b.toNat then false else (opnd r s).getLsbD k) ∧
    (∃ v, exec (setRow b r) s = .next { put r v (afterOpnd r s) with cycles := costOf (setRow b r) (byOperand r 2 4) s } ∧
      ∀ k, v.getLsbD k = if k = b.toNat then true else (opnd r s).getLsbD k)

/-! ### Control transfer -/

/-- R300 to R304: JP, JR and JP HL change PC alone; a conditional form jumps, at its taken cost, exactly when its condition
holds, and otherwise leaves PC at the next instruction. -/
def Obligations.JumpsSetPc : Prop :=
  ∀ (s : State) (nn : Word) (e : Byte) (cc : Cond) (holds : Bool),
    (cc, holds) ∈ [(Cond.NZ, !s.f.getLsbD 7), (.Z, s.f.getLsbD 7), (.NC, !s.f.getLsbD 4), (.C, s.f.getLsbD 4)] →
    let rel : Word := BitVec.ofInt 16 (s.pc.toNat + e.toInt)
    exec (.jp_u16 nn) s = .next { s with pc := nn, cycles := costOf (.jp_u16 nn) 4 s } ∧
    exec .jp_HL s = .next { s with pc := s.h ++ s.l, cycles := costOf .jp_HL 1 s } ∧
    exec (.jr_i8 e) s = .next { s with pc := rel, cycles := costOf (.jr_i8 e) 3 s } ∧
    exec (jpRow cc nn) s = .next (if holds then { s with pc := nn, cycles := takenCostOf (jpRow cc nn) 4 s }
      else { s with cycles := costOf (jpRow cc nn) 3 s }) ∧
    exec (jrRow cc e) s = .next (if holds then { s with pc := rel, cycles := takenCostOf (jrRow cc e) 3 s }
      else { s with cycles := costOf (jrRow cc e) 2 s })

/-- R305, R306, R310: CALL, a CALL cc whose condition holds and RST push the address of the next instruction and set PC to the
target (`ttt * 8` for RST); a CALL cc whose condition fails pushes nothing and needs no stack. -/
def Obligations.CallsPushTheReturnAddress : Prop :=
  ∀ (s : State) (nn : Word) (cc : Cond) (t : Idx8),
    (pushOpen s →
      exec (.call_u16 nn) s = .next { pushed s.pc s with pc := nn, cycles := costOf (.call_u16 nn) 6 s } ∧
      (cond cc s = true →
        exec (callRow cc nn) s = .next { pushed s.pc s with pc := nn, cycles := takenCostOf (callRow cc nn) 6 s }) ∧
      exec (rstRow t) s =
        .next { pushed s.pc s with pc := BitVec.ofNat 16 (8 * t.toNat), cycles := costOf (rstRow t) 4 s }) ∧
    (cond cc s = false → exec (callRow cc nn) s = .next { s with cycles := costOf (callRow cc nn) 3 s })

/-- R307, R308, R309: RET and a RET cc whose condition holds pop PC; RETI pops PC and sets IME at once, under every EI_DELAY; a
RET cc whose condition fails reads no stack. -/
def Obligations.ReturnsPopPc : Prop :=
  ∀ (s : State) (cc : Cond),
    (popOpen s →
      exec .ret s = .next { afterPop s with pc := popped s, cycles := costOf .ret 4 s } ∧
      exec .reti s = .next { afterPop s with pc := popped s, ime := true, cycles := costOf .reti 4 s } ∧
      (cond cc s = true → exec (retRow cc) s = .next { afterPop s with pc := popped s, cycles := takenCostOf (retRow cc) 5 s })) ∧
    (cond cc s = false → exec (retRow cc) s = .next { s with cycles := costOf (retRow cc) 2 s })

/-! ### System -/

/-- R330, R338: NOP and the eleven unused opcodes change nothing but the Step's count. -/
def Obligations.NopAndUnusedDoNothing : Prop :=
  ∀ (s : State) (i : Instr),
    i ∈ [Instr.nop, .unused_D3, .unused_DB, .unused_DD, .unused_E3, .unused_E4, .unused_EB, .unused_EC, .unused_ED, .unused_F4,
      .unused_FC, .unused_FD] →
    exec i s = .next { s with cycles := costOf i 1 s }

/-- Derived from R331: STOP enters halted (Halt), does nothing (NoOp) or, by the model's reading of log 10, itself stops for ever
(Stuck), as STOP_MODE says; its second byte has no effect. -/
def Obligations.StopFollowsStopMode : Prop :=
  ∀ (n : Byte) (s : State),
    (s.cfg.stopMode = .halt → exec (.stop n) s = .next { s with halted := true, cycles := costOf (.stop n) 1 s }) ∧
    (s.cfg.stopMode = .noOp → exec (.stop n) s = .next { s with cycles := costOf (.stop n) 1 s }) ∧
    (s.cfg.stopMode = .stuck → exec (.stop n) s = .fault .stoppedForEver)

/-- R332: HALT with IME = 0 and a request both enabled and pending is the HALT bug (PC goes back by 1, or the next byte will be
fetched twice, as HALT_BUG_MODE says) and does not halt; otherwise it halts. -/
def Obligations.HaltOrHaltBug : Prop :=
  ∀ s : State,
    let bug := s.ime = false ∧ s.ie &&& s.ifr &&& 0x1F ≠ 0
    (bug → s.cfg.haltBugMode = .rewind →
      exec .halt s = .next { s with halted := false, pc := s.pc - 1, cycles := costOf .halt 1 s }) ∧
    (bug → s.cfg.haltBugMode = .repeatNextByte →
      exec .halt s = .next { s with halted := false, haltBugPending := true, cycles := costOf .halt 1 s }) ∧
    (¬ bug → exec .halt s = .next { s with halted := true, cycles := costOf .halt 1 s })

/-- Derived from R336, R337, with the corner case of R337 as log 11 reads it: DI clears IME (and a waiting enable under
EI_DELAY = 1); EI with IME = 0 sets IME at once under EI_DELAY = 0 and arms the enable under EI_DELAY = 1; EI with IME = 1 changes
nothing under either. -/
def Obligations.DiAndEiWriteIme : Prop :=
  ∀ s : State,
    (s.cfg.eiDelay = .none →
      exec .di s = .next { s with ime := false, cycles := costOf .di 1 s } ∧
      exec .ei s = .next { s with ime := true, cycles := costOf .ei 1 s }) ∧
    (s.cfg.eiDelay = .oneInstruction →
      exec .di s = .next { s with ime := false, eiPending := false, cycles := costOf .di 1 s } ∧
      (s.ime = false → exec .ei s = .next { s with eiPending := true, cycles := costOf .ei 1 s })) ∧
    (s.ime = true → exec .ei s = .next { s with cycles := costOf .ei 1 s })

/-- Derived from R121 and R339; the model's reading of log 9: the prefix slot taken by itself fetches the next byte and has the
effect of the CB table's instruction at that byte. -/
def Obligations.PrefixSlotRunsTheCbInstruction : Prop :=
  ∀ s : State, open_ s.pc s → open_ (regHL s) s →
    ∃ i t, decode [0xCB, readByte s.pc s] = .ok (i, []) ∧ exec i { afterRead s.pc s with pc := s.pc + 1 } = .next t ∧
      exec .prefix_CB s = .next t

/-! ### The Step: dispatch, wake, halt -/

/-- R372, R378: with IME set and the request of source `i` pending and none of a lower number, a step clears that bit of IF and
IME and the halted flag, pushes PC, sets PC to the source's vector and advances the timers by 5, whatever stands at PC. -/
def Obligations.DispatchTakesTheLowestRequest : Prop :=
  ∀ (s : State) (i : Nat) (v : Word),
    (i, v) ∈ [(0, (0x0040 : Word)), (1, 0x0048), (2, 0x0050), (3, 0x0058), (4, 0x0060)] →
    s.ime = true → (s.ie &&& s.ifr).getLsbD i = true → (∀ j, j < i → (s.ie &&& s.ifr).getLsbD j = false) →
    pushOpen s →
    step s = .next (envTurn (advanceTimers 5
      { pushed s.pc { s with halted := false, ime := false, ifr := s.ifr &&& ~~~(BitVec.twoPow 8 i), cycles := 5 } with pc := v }))

/-- Derived from R370, R371: while a request is enabled and pending, a halted core steps as if it were not halted,
whatever IME holds, and with IME = 0 it runs the next instruction with the request still in IF; with none, a halted core fetches
nothing, counts 2 cycles, and only the timers and the environment go on. -/
def Obligations.HaltedCoreWakesOrCountsTime : Prop :=
  ∀ s : State,
    (s.ie &&& s.ifr &&& 0x1F ≠ 0 → step s = step { s with halted := false } ∧
      (s.ime = false → engineStep exec s = instructionStep exec { s with halted := false })) ∧
    (s.halted = true → s.ie &&& s.ifr &&& 0x1F = 0 → step s = .next (envTurn (advanceTimers 2 { s with cycles := 2 })))

/-- Derived from R332, R433: under Rewind and no EI delay, once a HALT below the I/O block is met with IME = 0 and a request
pending, every later step runs that HALT again: after any number of steps PC is still at it, the registers and IME are
unchanged, a request is still pending, and the machine has not stopped. -/
def Obligations.HaltBugLivelocks : Prop :=
  ∀ (n : Nat) (s : State),
    s.cfg.haltBugMode = .rewind → s.haltBugPending = false → s.cfg.eiDelay = .none → s.halted = false → s.ime = false →
    s.ie &&& s.ifr &&& 0x1F ≠ 0 → s.pc.toNat < 0xFF00 → stored s.pc s = 0x76 → open_ s.pc s →
    ∃ t, Host.Core.run Sys2Proof.core n s = .next t ∧ t.pc = s.pc ∧ stored t.pc t = 0x76 ∧ t.ime = false ∧ t.halted = false ∧
      t.ie &&& t.ifr &&& 0x1F ≠ 0 ∧ t.sp = s.sp ∧ t.a = s.a ∧ t.f = s.f ∧ t.b = s.b ∧ t.c = s.c ∧ t.d = s.d ∧ t.e = s.e ∧
      t.h = s.h ∧ t.l = s.l

/-- Derived from R333: under RepeatNextByte, with a HALT bug waiting, the opcode fetch reads the byte at PC without moving PC and ends the wait,
and any byte after it is fetched as usual, from that same PC on: the byte after the HALT is fetched twice. -/
def Obligations.HaltBugRepeatsTheByte : Prop :=
  ∀ (s : State) (i : Instr) (rest : List Byte),
    s.cfg.haltBugMode = .repeatNextByte → s.haltBugPending = true → s.halted = false → dispatchDue s = none →
    open_ s.pc s → open_ (s.pc + 1) s → drawn s.pc s = false → drawn (s.pc + 1) s = false →
    decode [stored s.pc s, stored s.pc s, stored (s.pc + 1) s] = .ok (i, rest) →
    step s = andThen (exec i { s with haltBugPending := false, pc := s.pc + BitVec.ofNat 16 ((encode i).length - 1) }) fun t =>
      let u := if s.cfg.eiDelay = .oneInstruction ∧ s.eiPending = true ∧ t.eiPending = true then
        { t with ime := true, eiPending := false } else t
      .next (envTurn (advanceTimers u.cycles u))

/-- Derived from R336, R337, R370, R432, with the corner case of R337 as log 11 reads it: under EI_DELAY = 1, EI leaves IME and
arms the enable exactly when IME is 0; the Step of the next instruction ends with IME = 1 and nothing armed, unless that
instruction is DI, which cancels the enable. -/
def Obligations.DelayedEiEnablesAfterOneInstruction : Prop :=
  ∀ (s t : State) (i : Instr), s.cfg.eiDelay = .oneInstruction → AtInstruction i s → engineStep exec s = .next t →
    (s.eiPending = false → i = .ei → t.eiPending = !s.ime ∧ t.ime = s.ime) ∧
    (s.eiPending = true → t.eiPending = false ∧ (t.ime = true ↔ i ≠ .di))

/-! ### Timers and the environment -/

/-- R380: AdvanceTimers does what the loops of R380 do, one subtraction and one increment at a time, and the loops have come to
their ends. -/
def Obligations.AdvanceTimersRunsTheLoops : Prop :=
  ∀ (cycles : Nat) (s : State),
    advanceTimers cycles s = timersByLoop cycles s ∧
    (s.cfg.divMode = .literal → (timersByLoop cycles s).divAccum < 256) ∧
    (s.tac.getLsbD 2 = true → (timersByLoop cycles s).timerAccum < periodOf s.tac)

/-- R383, R384, R385, with R387's count of several overflows: with the timer off TIMA, its accumulator and IF stand still; with it
on, the ticks make `k` increments, TIMA counts up by `k` when that stays within a byte, and otherwise has been reloaded from TMA
as often as it overflowed and has set IF bit 2, no other. -/
def Obligations.TimaCountsReloadsAndRequests : Prop :=
  ∀ (cycles : Nat) (s t : State), advanceTimers cycles s = t →
    let p := if s.tac.toNat % 4 = 0 then 1024 else if s.tac.toNat % 4 = 1 then 16 else if s.tac.toNat % 4 = 2 then 64 else 256
    let total := s.timerAccum + cycles * s.cfg.timerTicksPerCycle
    let k := total / p
    (s.tac.getLsbD 2 = false → t.tima = s.tima ∧ t.timerAccum = s.timerAccum ∧ t.ifr = s.ifr) ∧
    (s.tac.getLsbD 2 = true → t.timerAccum = total % p ∧
      (s.tima.toNat + k ≤ 255 → t.tima.toNat = s.tima.toNat + k ∧ t.ifr = s.ifr) ∧
      (s.tima.toNat + k > 255 →
        t.tima.toNat = s.tma.toNat + (s.tima.toNat + k - 256) % (256 - s.tma.toNat) ∧ t.ifr = s.ifr ||| 0x04))

/-- Derived from R391, with the inputs in the form the model chose: the environment's turn consumes one input (log 3), sets the
IF bits among 0, 1, 3 and 4 that it names and leaves the others, writes each device byte it names, the last write of that byte
counting, passes over an address that is no device's (log 25), and changes nothing else; with no input left it changes nothing. -/
def Obligations.EnvironmentSetsRequestsAndDeviceBytes : Prop :=
  ∀ s : State, Inv s → (s.env = [] → envTurn s = s) ∧
    ∀ (i : EnvInput) (rest : List EnvInput), s.env = i :: rest →
      envTurn s = { s with env := rest, ifr := (envTurn s).ifr, mem := (envTurn s).mem } ∧
      (∀ k, (envTurn s).ifr.getLsbD k = (s.ifr.getLsbD k || (decide (k = 0) && i.vblank) || (decide (k = 1) && i.lcd) ||
        (decide (k = 3) && i.serial) || (decide (k = 4) && i.joypad))) ∧
      (∀ a : Word, a ≠ 0xFF0F → isDeviceIo a = false ∨ (∀ v, (a, v) ∉ i.ioWrites) → stored a (envTurn s) = stored a s) ∧
      (∀ (a : Word) (v : Byte) (earlier later : List (Word × Byte)), i.ioWrites = earlier ++ (a, v) :: later →
        (∀ w, (a, w) ∉ later) → isDeviceIo a = true → stored a (envTurn s) = v)

/-! ### Whole-machine rules -/

/-- Derived from R24, R25 and the column `flags_ZNHC` of the opcode table: whatever instruction runs, each flag its column marks
unchanged is unchanged and each flag the column forces has that value; an instruction that marks all four unchanged leaves the
whole flag byte; any other leaves its low nibble 0 (R22). The bare prefix stands for another row. -/
def Obligations.FlagsFollowTheTableColumn : Prop :=
  ∀ (i : Instr) (s t : State), i ≠ .prefix_CB → exec i s = .next t →
    (flagColumn i).z.holds (s.f.getLsbD 7) (t.f.getLsbD 7) ∧ (flagColumn i).n.holds (s.f.getLsbD 6) (t.f.getLsbD 6) ∧
    (flagColumn i).h.holds (s.f.getLsbD 5) (t.f.getLsbD 5) ∧ (flagColumn i).c.holds (s.f.getLsbD 4) (t.f.getLsbD 4) ∧
    (flagColumn i = .kept → t.f = s.f) ∧ (flagColumn i ≠ .kept → t.f &&& 0x0F = 0)

/-- Derived from R63, R64, R75, R80 to R84: the memory frame of every instruction. `storeTargets i s` computes the addresses stored
to from the instruction's own form. Every other address outside the two bank windows reads as before; so does every other address
at all, with the mapper's registers unchanged, when no target lies in the ROM range; the ROM image never changes, the cartridge
RAM only through its window, the divider only through 0xFF04; and with no target the array is unchanged. -/
def Obligations.StoresStayAtTheirTargets : Prop :=
  ∀ (i : Instr) (s t : State), i ≠ .prefix_CB → exec i s = .next t →
    t.cart = s.cart ∧
    (∀ b, b ∉ storeTargets i s → 0x8000 ≤ b.toNat → ¬ (0xA000 ≤ b.toNat ∧ b.toNat ≤ 0xBFFF) → stored b t = stored b s) ∧
    ((∀ a ∈ storeTargets i s, 0x8000 ≤ a.toNat) → (∀ b, b ∉ storeTargets i s → stored b t = stored b s) ∧
      t.ramEnabled = s.ramEnabled ∧ t.primary = s.primary ∧ t.secondary = s.secondary ∧ t.mode = s.mode) ∧
    ((∀ a ∈ storeTargets i s, ¬ (0xA000 ≤ a.toNat ∧ a.toNat ≤ 0xBFFF)) → t.cartRam = s.cartRam) ∧
    (0xFF04 ∉ storeTargets i s → t.divider = s.divider) ∧
    (storeTargets i s = [] → t.mem = s.mem) ∧
    t.divAccum = s.divAccum ∧ t.timerAccum = s.timerAccum

/-- Derived from R26, R27, R28, R31, R32: IME is written only by DI, EI and RETI, halted only by HALT and STOP, the waiting EI only
by DI and EI, the waiting HALT bug only by HALT, SP only by the instructions R27 lists, and PC, after the fetch, only by control
transfers and HALT (and by the bare prefix, which fetches a byte). -/
def Obligations.OnlyNamedInstructionsWriteControlState : Prop :=
  ∀ (i : Instr) (s t : State), exec i s = .next t →
    (t.ime ≠ s.ime → i = .di ∨ i = .ei ∨ i = .reti) ∧
    (t.halted ≠ s.halted → i = .halt ∨ ∃ n, i = .stop n) ∧
    (t.eiPending ≠ s.eiPending → i = .di ∨ i = .ei) ∧
    (t.haltBugPending ≠ s.haltBugPending → i = .halt) ∧
    (t.sp ≠ s.sp → i = .ld_SP_HL ∨ i = .inc_SP ∨ i = .dec_SP ∨ i = .ret ∨ i = .reti ∨ (∃ nn, i = .ld_SP_u16 nn) ∨
      (∃ e, i = .add_SP_i8 e) ∨ (∃ r, i = pushRow r) ∨ (∃ r, i = popRow r) ∨ (∃ nn, i = .call_u16 nn) ∨
      (∃ cc nn, i = callRow cc nn) ∨ (∃ x, i = rstRow x) ∨ ∃ cc, i = retRow cc) ∧
    (t.pc ≠ s.pc → i = .halt ∨ i = .prefix_CB ∨ i = .jp_HL ∨ i = .ret ∨ i = .reti ∨ (∃ nn, i = .jp_u16 nn) ∨ (∃ e, i = .jr_i8 e) ∨
      (∃ cc nn, i = jpRow cc nn) ∨ (∃ cc e, i = jrRow cc e) ∨ (∃ nn, i = .call_u16 nn) ∨ (∃ cc nn, i = callRow cc nn) ∨
      (∃ x, i = rstRow x) ∨ ∃ cc, i = retRow cc)

/-- Derived from R360, R362: under UNMAPPED_POLICY = OpenBus and a STOP_MODE other than Stuck every instruction completes and every
step answers a next state; a step that stops does so for an access to 0xE000 to 0xFEFF under UNMAPPED_POLICY = Fault or for a STOP
under STOP_MODE = Stuck; and no step is refused. -/
def Obligations.MachineStopsOnlyUnderRefusingParameters : Prop :=
  (∀ s : State, s.cfg.unmappedPolicy = .openBus → s.cfg.stopMode ≠ .stuck →
    (∀ i : Instr, ∃ t, exec i s = .next t) ∧ ∃ t, step s = .next t) ∧
  ∀ s : State,
    (∀ r, step s = .fault r → (r = .stoppedForEver ∧ s.cfg.stopMode = .stuck) ∨
      ∃ a : Word, r = .unmappedAccess a ∧ 0xE000 ≤ a.toNat ∧ a.toNat ≤ 0xFEFF ∧ s.cfg.unmappedPolicy = .fault) ∧
    ∀ r, step s ≠ .refused r

/-- Derived from R8, R38, R40, R75: no step changes the parameters, the cartridge's header constants or its ROM image, whatever is
written to the ROM range; and, by the model's choice of log 3 for the oracle of R391, each step consumes the first of the
environment's coming inputs, if one is left. -/
def Obligations.StepKeepsConfigAndCartridge : Prop :=
  ∀ s t : State, step s = .next t → t.cfg = s.cfg ∧ t.cart = s.cart ∧ t.env = s.env.drop 1

/-- Derived from R22, R32, R37, R38, R39: from every state that meets the invariant, a step that answers a next state gives one
that meets it. -/
def Obligations.StepKeepsTheInvariant : Prop :=
  ∀ s t : State, Inv s → step s = .next t → Inv t
end

