-- ==== Sys2Proof/Laws/State.lean ====
section
/-! SUPPORT. One lemma per field per update of the state: what the field holds after it. -/

namespace Sys2Proof.Machine

variable (s : State)

/-! ### charge -/

@[simp] theorem charge_cfg (x : Slot) (n : Nat) : (charge x n s).cfg = s.cfg := rfl
@[simp] theorem charge_cart (x : Slot) (n : Nat) : (charge x n s).cart = s.cart := rfl
@[simp] theorem charge_a (x : Slot) (n : Nat) : (charge x n s).a = s.a := rfl
@[simp] theorem charge_f (x : Slot) (n : Nat) : (charge x n s).f = s.f := rfl
@[simp] theorem charge_b (x : Slot) (n : Nat) : (charge x n s).b = s.b := rfl
@[simp] theorem charge_c (x : Slot) (n : Nat) : (charge x n s).c = s.c := rfl
@[simp] theorem charge_d (x : Slot) (n : Nat) : (charge x n s).d = s.d := rfl
@[simp] theorem charge_e (x : Slot) (n : Nat) : (charge x n s).e = s.e := rfl
@[simp] theorem charge_h (x : Slot) (n : Nat) : (charge x n s).h = s.h := rfl
@[simp] theorem charge_l (x : Slot) (n : Nat) : (charge x n s).l = s.l := rfl
@[simp] theorem charge_sp (x : Slot) (n : Nat) : (charge x n s).sp = s.sp := rfl
@[simp] theorem charge_pc (x : Slot) (n : Nat) : (charge x n s).pc = s.pc := rfl
@[simp] theorem charge_ime (x : Slot) (n : Nat) : (charge x n s).ime = s.ime := rfl
@[simp] theorem charge_halted (x : Slot) (n : Nat) : (charge x n s).halted = s.halted := rfl
@[simp] theorem charge_eiPending (x : Slot) (n : Nat) : (charge x n s).eiPending = s.eiPending := rfl
@[simp] theorem charge_haltBugPending (x : Slot) (n : Nat) : (charge x n s).haltBugPending = s.haltBugPending := rfl
@[simp] theorem charge_ie (x : Slot) (n : Nat) : (charge x n s).ie = s.ie := rfl
@[simp] theorem charge_ifr (x : Slot) (n : Nat) : (charge x n s).ifr = s.ifr := rfl
@[simp] theorem charge_divider (x : Slot) (n : Nat) : (charge x n s).divider = s.divider := rfl
@[simp] theorem charge_tima (x : Slot) (n : Nat) : (charge x n s).tima = s.tima := rfl
@[simp] theorem charge_tma (x : Slot) (n : Nat) : (charge x n s).tma = s.tma := rfl
@[simp] theorem charge_tac (x : Slot) (n : Nat) : (charge x n s).tac = s.tac := rfl
@[simp] theorem charge_timerAccum (x : Slot) (n : Nat) : (charge x n s).timerAccum = s.timerAccum := rfl
@[simp] theorem charge_divAccum (x : Slot) (n : Nat) : (charge x n s).divAccum = s.divAccum := rfl
@[simp] theorem charge_ramEnabled (x : Slot) (n : Nat) : (charge x n s).ramEnabled = s.ramEnabled := rfl
@[simp] theorem charge_primary (x : Slot) (n : Nat) : (charge x n s).primary = s.primary := rfl
@[simp] theorem charge_secondary (x : Slot) (n : Nat) : (charge x n s).secondary = s.secondary := rfl
@[simp] theorem charge_mode (x : Slot) (n : Nat) : (charge x n s).mode = s.mode := rfl
@[simp] theorem charge_mem (x : Slot) (n : Nat) : (charge x n s).mem = s.mem := rfl
@[simp] theorem charge_cartRam (x : Slot) (n : Nat) : (charge x n s).cartRam = s.cartRam := rfl
@[simp] theorem charge_env (x : Slot) (n : Nat) : (charge x n s).env = s.env := rfl
@[simp] theorem charge_cycles (x : Slot) (n : Nat) : (charge x n s).cycles = baseCost x n s.cfg := rfl
@[simp] theorem charge_draws (x : Slot) (n : Nat) : (charge x n s).draws = s.draws := rfl

/-! ### chargeTaken -/

@[simp] theorem chargeTaken_cfg (x : Slot) (n : Nat) : (chargeTaken x n s).cfg = s.cfg := rfl
@[simp] theorem chargeTaken_cart (x : Slot) (n : Nat) : (chargeTaken x n s).cart = s.cart := rfl
@[simp] theorem chargeTaken_a (x : Slot) (n : Nat) : (chargeTaken x n s).a = s.a := rfl
@[simp] theorem chargeTaken_f (x : Slot) (n : Nat) : (chargeTaken x n s).f = s.f := rfl
@[simp] theorem chargeTaken_b (x : Slot) (n : Nat) : (chargeTaken x n s).b = s.b := rfl
@[simp] theorem chargeTaken_c (x : Slot) (n : Nat) : (chargeTaken x n s).c = s.c := rfl
@[simp] theorem chargeTaken_d (x : Slot) (n : Nat) : (chargeTaken x n s).d = s.d := rfl
@[simp] theorem chargeTaken_e (x : Slot) (n : Nat) : (chargeTaken x n s).e = s.e := rfl
@[simp] theorem chargeTaken_h (x : Slot) (n : Nat) : (chargeTaken x n s).h = s.h := rfl
@[simp] theorem chargeTaken_l (x : Slot) (n : Nat) : (chargeTaken x n s).l = s.l := rfl
@[simp] theorem chargeTaken_sp (x : Slot) (n : Nat) : (chargeTaken x n s).sp = s.sp := rfl
@[simp] theorem chargeTaken_pc (x : Slot) (n : Nat) : (chargeTaken x n s).pc = s.pc := rfl
@[simp] theorem chargeTaken_ime (x : Slot) (n : Nat) : (chargeTaken x n s).ime = s.ime := rfl
@[simp] theorem chargeTaken_halted (x : Slot) (n : Nat) : (chargeTaken x n s).halted = s.halted := rfl
@[simp] theorem chargeTaken_eiPending (x : Slot) (n : Nat) : (chargeTaken x n s).eiPending = s.eiPending := rfl
@[simp] theorem chargeTaken_haltBugPending (x : Slot) (n : Nat) : (chargeTaken x n s).haltBugPending = s.haltBugPending := rfl
@[simp] theorem chargeTaken_ie (x : Slot) (n : Nat) : (chargeTaken x n s).ie = s.ie := rfl
@[simp] theorem chargeTaken_ifr (x : Slot) (n : Nat) : (chargeTaken x n s).ifr = s.ifr := rfl
@[simp] theorem chargeTaken_divider (x : Slot) (n : Nat) : (chargeTaken x n s).divider = s.divider := rfl
@[simp] theorem chargeTaken_tima (x : Slot) (n : Nat) : (chargeTaken x n s).tima = s.tima := rfl
@[simp] theorem chargeTaken_tma (x : Slot) (n : Nat) : (chargeTaken x n s).tma = s.tma := rfl
@[simp] theorem chargeTaken_tac (x : Slot) (n : Nat) : (chargeTaken x n s).tac = s.tac := rfl
@[simp] theorem chargeTaken_timerAccum (x : Slot) (n : Nat) : (chargeTaken x n s).timerAccum = s.timerAccum := rfl
@[simp] theorem chargeTaken_divAccum (x : Slot) (n : Nat) : (chargeTaken x n s).divAccum = s.divAccum := rfl
@[simp] theorem chargeTaken_ramEnabled (x : Slot) (n : Nat) : (chargeTaken x n s).ramEnabled = s.ramEnabled := rfl
@[simp] theorem chargeTaken_primary (x : Slot) (n : Nat) : (chargeTaken x n s).primary = s.primary := rfl
@[simp] theorem chargeTaken_secondary (x : Slot) (n : Nat) : (chargeTaken x n s).secondary = s.secondary := rfl
@[simp] theorem chargeTaken_mode (x : Slot) (n : Nat) : (chargeTaken x n s).mode = s.mode := rfl
@[simp] theorem chargeTaken_mem (x : Slot) (n : Nat) : (chargeTaken x n s).mem = s.mem := rfl
@[simp] theorem chargeTaken_cartRam (x : Slot) (n : Nat) : (chargeTaken x n s).cartRam = s.cartRam := rfl
@[simp] theorem chargeTaken_env (x : Slot) (n : Nat) : (chargeTaken x n s).env = s.env := rfl
@[simp] theorem chargeTaken_cycles (x : Slot) (n : Nat) : (chargeTaken x n s).cycles = takenCost x n s.cfg := rfl
@[simp] theorem chargeTaken_draws (x : Slot) (n : Nat) : (chargeTaken x n s).draws = s.draws := rfl

/-! ### setF -/

@[simp] theorem setF_cfg (z n h c : Bool) : (setF z n h c s).cfg = s.cfg := rfl
@[simp] theorem setF_cart (z n h c : Bool) : (setF z n h c s).cart = s.cart := rfl
@[simp] theorem setF_a (z n h c : Bool) : (setF z n h c s).a = s.a := rfl
@[simp] theorem setF_f (z n h c : Bool) : (setF z n h c s).f = flagByte z n h c := rfl
@[simp] theorem setF_b (z n h c : Bool) : (setF z n h c s).b = s.b := rfl
@[simp] theorem setF_c (z n h c : Bool) : (setF z n h c s).c = s.c := rfl
@[simp] theorem setF_d (z n h c : Bool) : (setF z n h c s).d = s.d := rfl
@[simp] theorem setF_e (z n h c : Bool) : (setF z n h c s).e = s.e := rfl
@[simp] theorem setF_h (z n h c : Bool) : (setF z n h c s).h = s.h := rfl
@[simp] theorem setF_l (z n h c : Bool) : (setF z n h c s).l = s.l := rfl
@[simp] theorem setF_sp (z n h c : Bool) : (setF z n h c s).sp = s.sp := rfl
@[simp] theorem setF_pc (z n h c : Bool) : (setF z n h c s).pc = s.pc := rfl
@[simp] theorem setF_ime (z n h c : Bool) : (setF z n h c s).ime = s.ime := rfl
@[simp] theorem setF_halted (z n h c : Bool) : (setF z n h c s).halted = s.halted := rfl
@[simp] theorem setF_eiPending (z n h c : Bool) : (setF z n h c s).eiPending = s.eiPending := rfl
@[simp] theorem setF_haltBugPending (z n h c : Bool) : (setF z n h c s).haltBugPending = s.haltBugPending := rfl
@[simp] theorem setF_ie (z n h c : Bool) : (setF z n h c s).ie = s.ie := rfl
@[simp] theorem setF_ifr (z n h c : Bool) : (setF z n h c s).ifr = s.ifr := rfl
@[simp] theorem setF_divider (z n h c : Bool) : (setF z n h c s).divider = s.divider := rfl
@[simp] theorem setF_tima (z n h c : Bool) : (setF z n h c s).tima = s.tima := rfl
@[simp] theorem setF_tma (z n h c : Bool) : (setF z n h c s).tma = s.tma := rfl
@[simp] theorem setF_tac (z n h c : Bool) : (setF z n h c s).tac = s.tac := rfl
@[simp] theorem setF_timerAccum (z n h c : Bool) : (setF z n h c s).timerAccum = s.timerAccum := rfl
@[simp] theorem setF_divAccum (z n h c : Bool) : (setF z n h c s).divAccum = s.divAccum := rfl
@[simp] theorem setF_ramEnabled (z n h c : Bool) : (setF z n h c s).ramEnabled = s.ramEnabled := rfl
@[simp] theorem setF_primary (z n h c : Bool) : (setF z n h c s).primary = s.primary := rfl
@[simp] theorem setF_secondary (z n h c : Bool) : (setF z n h c s).secondary = s.secondary := rfl
@[simp] theorem setF_mode (z n h c : Bool) : (setF z n h c s).mode = s.mode := rfl
@[simp] theorem setF_mem (z n h c : Bool) : (setF z n h c s).mem = s.mem := rfl
@[simp] theorem setF_cartRam (z n h c : Bool) : (setF z n h c s).cartRam = s.cartRam := rfl
@[simp] theorem setF_env (z n h c : Bool) : (setF z n h c s).env = s.env := rfl
@[simp] theorem setF_cycles (z n h c : Bool) : (setF z n h c s).cycles = s.cycles := rfl
@[simp] theorem setF_draws (z n h c : Bool) : (setF z n h c s).draws = s.draws := rfl

/-! ### setBC -/

@[simp] theorem setBC_cfg (v : Word) : (setBC v s).cfg = s.cfg := rfl
@[simp] theorem setBC_cart (v : Word) : (setBC v s).cart = s.cart := rfl
@[simp] theorem setBC_a (v : Word) : (setBC v s).a = s.a := rfl
@[simp] theorem setBC_f (v : Word) : (setBC v s).f = s.f := rfl
@[simp] theorem setBC_b (v : Word) : (setBC v s).b = hiByte v := rfl
@[simp] theorem setBC_c (v : Word) : (setBC v s).c = loByte v := rfl
@[simp] theorem setBC_d (v : Word) : (setBC v s).d = s.d := rfl
@[simp] theorem setBC_e (v : Word) : (setBC v s).e = s.e := rfl
@[simp] theorem setBC_h (v : Word) : (setBC v s).h = s.h := rfl
@[simp] theorem setBC_l (v : Word) : (setBC v s).l = s.l := rfl
@[simp] theorem setBC_sp (v : Word) : (setBC v s).sp = s.sp := rfl
@[simp] theorem setBC_pc (v : Word) : (setBC v s).pc = s.pc := rfl
@[simp] theorem setBC_ime (v : Word) : (setBC v s).ime = s.ime := rfl
@[simp] theorem setBC_halted (v : Word) : (setBC v s).halted = s.halted := rfl
@[simp] theorem setBC_eiPending (v : Word) : (setBC v s).eiPending = s.eiPending := rfl
@[simp] theorem setBC_haltBugPending (v : Word) : (setBC v s).haltBugPending = s.haltBugPending := rfl
@[simp] theorem setBC_ie (v : Word) : (setBC v s).ie = s.ie := rfl
@[simp] theorem setBC_ifr (v : Word) : (setBC v s).ifr = s.ifr := rfl
@[simp] theorem setBC_divider (v : Word) : (setBC v s).divider = s.divider := rfl
@[simp] theorem setBC_tima (v : Word) : (setBC v s).tima = s.tima := rfl
@[simp] theorem setBC_tma (v : Word) : (setBC v s).tma = s.tma := rfl
@[simp] theorem setBC_tac (v : Word) : (setBC v s).tac = s.tac := rfl
@[simp] theorem setBC_timerAccum (v : Word) : (setBC v s).timerAccum = s.timerAccum := rfl
@[simp] theorem setBC_divAccum (v : Word) : (setBC v s).divAccum = s.divAccum := rfl
@[simp] theorem setBC_ramEnabled (v : Word) : (setBC v s).ramEnabled = s.ramEnabled := rfl
@[simp] theorem setBC_primary (v : Word) : (setBC v s).primary = s.primary := rfl
@[simp] theorem setBC_secondary (v : Word) : (setBC v s).secondary = s.secondary := rfl
@[simp] theorem setBC_mode (v : Word) : (setBC v s).mode = s.mode := rfl
@[simp] theorem setBC_mem (v : Word) : (setBC v s).mem = s.mem := rfl
@[simp] theorem setBC_cartRam (v : Word) : (setBC v s).cartRam = s.cartRam := rfl
@[simp] theorem setBC_env (v : Word) : (setBC v s).env = s.env := rfl
@[simp] theorem setBC_cycles (v : Word) : (setBC v s).cycles = s.cycles := rfl
@[simp] theorem setBC_draws (v : Word) : (setBC v s).draws = s.draws := rfl

/-! ### setDE -/

@[simp] theorem setDE_cfg (v : Word) : (setDE v s).cfg = s.cfg := rfl
@[simp] theorem setDE_cart (v : Word) : (setDE v s).cart = s.cart := rfl
@[simp] theorem setDE_a (v : Word) : (setDE v s).a = s.a := rfl
@[simp] theorem setDE_f (v : Word) : (setDE v s).f = s.f := rfl
@[simp] theorem setDE_b (v : Word) : (setDE v s).b = s.b := rfl
@[simp] theorem setDE_c (v : Word) : (setDE v s).c = s.c := rfl
@[simp] theorem setDE_d (v : Word) : (setDE v s).d = hiByte v := rfl
@[simp] theorem setDE_e (v : Word) : (setDE v s).e = loByte v := rfl
@[simp] theorem setDE_h (v : Word) : (setDE v s).h = s.h := rfl
@[simp] theorem setDE_l (v : Word) : (setDE v s).l = s.l := rfl
@[simp] theorem setDE_sp (v : Word) : (setDE v s).sp = s.sp := rfl
@[simp] theorem setDE_pc (v : Word) : (setDE v s).pc = s.pc := rfl
@[simp] theorem setDE_ime (v : Word) : (setDE v s).ime = s.ime := rfl
@[simp] theorem setDE_halted (v : Word) : (setDE v s).halted = s.halted := rfl
@[simp] theorem setDE_eiPending (v : Word) : (setDE v s).eiPending = s.eiPending := rfl
@[simp] theorem setDE_haltBugPending (v : Word) : (setDE v s).haltBugPending = s.haltBugPending := rfl
@[simp] theorem setDE_ie (v : Word) : (setDE v s).ie = s.ie := rfl
@[simp] theorem setDE_ifr (v : Word) : (setDE v s).ifr = s.ifr := rfl
@[simp] theorem setDE_divider (v : Word) : (setDE v s).divider = s.divider := rfl
@[simp] theorem setDE_tima (v : Word) : (setDE v s).tima = s.tima := rfl
@[simp] theorem setDE_tma (v : Word) : (setDE v s).tma = s.tma := rfl
@[simp] theorem setDE_tac (v : Word) : (setDE v s).tac = s.tac := rfl
@[simp] theorem setDE_timerAccum (v : Word) : (setDE v s).timerAccum = s.timerAccum := rfl
@[simp] theorem setDE_divAccum (v : Word) : (setDE v s).divAccum = s.divAccum := rfl
@[simp] theorem setDE_ramEnabled (v : Word) : (setDE v s).ramEnabled = s.ramEnabled := rfl
@[simp] theorem setDE_primary (v : Word) : (setDE v s).primary = s.primary := rfl
@[simp] theorem setDE_secondary (v : Word) : (setDE v s).secondary = s.secondary := rfl
@[simp] theorem setDE_mode (v : Word) : (setDE v s).mode = s.mode := rfl
@[simp] theorem setDE_mem (v : Word) : (setDE v s).mem = s.mem := rfl
@[simp] theorem setDE_cartRam (v : Word) : (setDE v s).cartRam = s.cartRam := rfl
@[simp] theorem setDE_env (v : Word) : (setDE v s).env = s.env := rfl
@[simp] theorem setDE_cycles (v : Word) : (setDE v s).cycles = s.cycles := rfl
@[simp] theorem setDE_draws (v : Word) : (setDE v s).draws = s.draws := rfl

/-! ### setHL -/

@[simp] theorem setHL_cfg (v : Word) : (setHL v s).cfg = s.cfg := rfl
@[simp] theorem setHL_cart (v : Word) : (setHL v s).cart = s.cart := rfl
@[simp] theorem setHL_a (v : Word) : (setHL v s).a = s.a := rfl
@[simp] theorem setHL_f (v : Word) : (setHL v s).f = s.f := rfl
@[simp] theorem setHL_b (v : Word) : (setHL v s).b = s.b := rfl
@[simp] theorem setHL_c (v : Word) : (setHL v s).c = s.c := rfl
@[simp] theorem setHL_d (v : Word) : (setHL v s).d = s.d := rfl
@[simp] theorem setHL_e (v : Word) : (setHL v s).e = s.e := rfl
@[simp] theorem setHL_h (v : Word) : (setHL v s).h = hiByte v := rfl
@[simp] theorem setHL_l (v : Word) : (setHL v s).l = loByte v := rfl
@[simp] theorem setHL_sp (v : Word) : (setHL v s).sp = s.sp := rfl
@[simp] theorem setHL_pc (v : Word) : (setHL v s).pc = s.pc := rfl
@[simp] theorem setHL_ime (v : Word) : (setHL v s).ime = s.ime := rfl
@[simp] theorem setHL_halted (v : Word) : (setHL v s).halted = s.halted := rfl
@[simp] theorem setHL_eiPending (v : Word) : (setHL v s).eiPending = s.eiPending := rfl
@[simp] theorem setHL_haltBugPending (v : Word) : (setHL v s).haltBugPending = s.haltBugPending := rfl
@[simp] theorem setHL_ie (v : Word) : (setHL v s).ie = s.ie := rfl
@[simp] theorem setHL_ifr (v : Word) : (setHL v s).ifr = s.ifr := rfl
@[simp] theorem setHL_divider (v : Word) : (setHL v s).divider = s.divider := rfl
@[simp] theorem setHL_tima (v : Word) : (setHL v s).tima = s.tima := rfl
@[simp] theorem setHL_tma (v : Word) : (setHL v s).tma = s.tma := rfl
@[simp] theorem setHL_tac (v : Word) : (setHL v s).tac = s.tac := rfl
@[simp] theorem setHL_timerAccum (v : Word) : (setHL v s).timerAccum = s.timerAccum := rfl
@[simp] theorem setHL_divAccum (v : Word) : (setHL v s).divAccum = s.divAccum := rfl
@[simp] theorem setHL_ramEnabled (v : Word) : (setHL v s).ramEnabled = s.ramEnabled := rfl
@[simp] theorem setHL_primary (v : Word) : (setHL v s).primary = s.primary := rfl
@[simp] theorem setHL_secondary (v : Word) : (setHL v s).secondary = s.secondary := rfl
@[simp] theorem setHL_mode (v : Word) : (setHL v s).mode = s.mode := rfl
@[simp] theorem setHL_mem (v : Word) : (setHL v s).mem = s.mem := rfl
@[simp] theorem setHL_cartRam (v : Word) : (setHL v s).cartRam = s.cartRam := rfl
@[simp] theorem setHL_env (v : Word) : (setHL v s).env = s.env := rfl
@[simp] theorem setHL_cycles (v : Word) : (setHL v s).cycles = s.cycles := rfl
@[simp] theorem setHL_draws (v : Word) : (setHL v s).draws = s.draws := rfl

/-! ### setAF -/

@[simp] theorem setAF_cfg (v : Word) : (setAF v s).cfg = s.cfg := rfl
@[simp] theorem setAF_cart (v : Word) : (setAF v s).cart = s.cart := rfl
@[simp] theorem setAF_a (v : Word) : (setAF v s).a = hiByte v := rfl
@[simp] theorem setAF_f (v : Word) : (setAF v s).f = loByte v &&& 0xF0 := rfl
@[simp] theorem setAF_b (v : Word) : (setAF v s).b = s.b := rfl
@[simp] theorem setAF_c (v : Word) : (setAF v s).c = s.c := rfl
@[simp] theorem setAF_d (v : Word) : (setAF v s).d = s.d := rfl
@[simp] theorem setAF_e (v : Word) : (setAF v s).e = s.e := rfl
@[simp] theorem setAF_h (v : Word) : (setAF v s).h = s.h := rfl
@[simp] theorem setAF_l (v : Word) : (setAF v s).l = s.l := rfl
@[simp] theorem setAF_sp (v : Word) : (setAF v s).sp = s.sp := rfl
@[simp] theorem setAF_pc (v : Word) : (setAF v s).pc = s.pc := rfl
@[simp] theorem setAF_ime (v : Word) : (setAF v s).ime = s.ime := rfl
@[simp] theorem setAF_halted (v : Word) : (setAF v s).halted = s.halted := rfl
@[simp] theorem setAF_eiPending (v : Word) : (setAF v s).eiPending = s.eiPending := rfl
@[simp] theorem setAF_haltBugPending (v : Word) : (setAF v s).haltBugPending = s.haltBugPending := rfl
@[simp] theorem setAF_ie (v : Word) : (setAF v s).ie = s.ie := rfl
@[simp] theorem setAF_ifr (v : Word) : (setAF v s).ifr = s.ifr := rfl
@[simp] theorem setAF_divider (v : Word) : (setAF v s).divider = s.divider := rfl
@[simp] theorem setAF_tima (v : Word) : (setAF v s).tima = s.tima := rfl
@[simp] theorem setAF_tma (v : Word) : (setAF v s).tma = s.tma := rfl
@[simp] theorem setAF_tac (v : Word) : (setAF v s).tac = s.tac := rfl
@[simp] theorem setAF_timerAccum (v : Word) : (setAF v s).timerAccum = s.timerAccum := rfl
@[simp] theorem setAF_divAccum (v : Word) : (setAF v s).divAccum = s.divAccum := rfl
@[simp] theorem setAF_ramEnabled (v : Word) : (setAF v s).ramEnabled = s.ramEnabled := rfl
@[simp] theorem setAF_primary (v : Word) : (setAF v s).primary = s.primary := rfl
@[simp] theorem setAF_secondary (v : Word) : (setAF v s).secondary = s.secondary := rfl
@[simp] theorem setAF_mode (v : Word) : (setAF v s).mode = s.mode := rfl
@[simp] theorem setAF_mem (v : Word) : (setAF v s).mem = s.mem := rfl
@[simp] theorem setAF_cartRam (v : Word) : (setAF v s).cartRam = s.cartRam := rfl
@[simp] theorem setAF_env (v : Word) : (setAF v s).env = s.env := rfl
@[simp] theorem setAF_cycles (v : Word) : (setAF v s).cycles = s.cycles := rfl
@[simp] theorem setAF_draws (v : Word) : (setAF v s).draws = s.draws := rfl

/-! ### setSP -/

@[simp] theorem setSP_cfg (v : Word) : (setSP v s).cfg = s.cfg := rfl
@[simp] theorem setSP_cart (v : Word) : (setSP v s).cart = s.cart := rfl
@[simp] theorem setSP_a (v : Word) : (setSP v s).a = s.a := rfl
@[simp] theorem setSP_f (v : Word) : (setSP v s).f = s.f := rfl
@[simp] theorem setSP_b (v : Word) : (setSP v s).b = s.b := rfl
@[simp] theorem setSP_c (v : Word) : (setSP v s).c = s.c := rfl
@[simp] theorem setSP_d (v : Word) : (setSP v s).d = s.d := rfl
@[simp] theorem setSP_e (v : Word) : (setSP v s).e = s.e := rfl
@[simp] theorem setSP_h (v : Word) : (setSP v s).h = s.h := rfl
@[simp] theorem setSP_l (v : Word) : (setSP v s).l = s.l := rfl
@[simp] theorem setSP_sp (v : Word) : (setSP v s).sp = v := rfl
@[simp] theorem setSP_pc (v : Word) : (setSP v s).pc = s.pc := rfl
@[simp] theorem setSP_ime (v : Word) : (setSP v s).ime = s.ime := rfl
@[simp] theorem setSP_halted (v : Word) : (setSP v s).halted = s.halted := rfl
@[simp] theorem setSP_eiPending (v : Word) : (setSP v s).eiPending = s.eiPending := rfl
@[simp] theorem setSP_haltBugPending (v : Word) : (setSP v s).haltBugPending = s.haltBugPending := rfl
@[simp] theorem setSP_ie (v : Word) : (setSP v s).ie = s.ie := rfl
@[simp] theorem setSP_ifr (v : Word) : (setSP v s).ifr = s.ifr := rfl
@[simp] theorem setSP_divider (v : Word) : (setSP v s).divider = s.divider := rfl
@[simp] theorem setSP_tima (v : Word) : (setSP v s).tima = s.tima := rfl
@[simp] theorem setSP_tma (v : Word) : (setSP v s).tma = s.tma := rfl
@[simp] theorem setSP_tac (v : Word) : (setSP v s).tac = s.tac := rfl
@[simp] theorem setSP_timerAccum (v : Word) : (setSP v s).timerAccum = s.timerAccum := rfl
@[simp] theorem setSP_divAccum (v : Word) : (setSP v s).divAccum = s.divAccum := rfl
@[simp] theorem setSP_ramEnabled (v : Word) : (setSP v s).ramEnabled = s.ramEnabled := rfl
@[simp] theorem setSP_primary (v : Word) : (setSP v s).primary = s.primary := rfl
@[simp] theorem setSP_secondary (v : Word) : (setSP v s).secondary = s.secondary := rfl
@[simp] theorem setSP_mode (v : Word) : (setSP v s).mode = s.mode := rfl
@[simp] theorem setSP_mem (v : Word) : (setSP v s).mem = s.mem := rfl
@[simp] theorem setSP_cartRam (v : Word) : (setSP v s).cartRam = s.cartRam := rfl
@[simp] theorem setSP_env (v : Word) : (setSP v s).env = s.env := rfl
@[simp] theorem setSP_cycles (v : Word) : (setSP v s).cycles = s.cycles := rfl
@[simp] theorem setSP_draws (v : Word) : (setSP v s).draws = s.draws := rfl

/-! ### setPC -/

@[simp] theorem setPC_cfg (v : Word) : (setPC v s).cfg = s.cfg := rfl
@[simp] theorem setPC_cart (v : Word) : (setPC v s).cart = s.cart := rfl
@[simp] theorem setPC_a (v : Word) : (setPC v s).a = s.a := rfl
@[simp] theorem setPC_f (v : Word) : (setPC v s).f = s.f := rfl
@[simp] theorem setPC_b (v : Word) : (setPC v s).b = s.b := rfl
@[simp] theorem setPC_c (v : Word) : (setPC v s).c = s.c := rfl
@[simp] theorem setPC_d (v : Word) : (setPC v s).d = s.d := rfl
@[simp] theorem setPC_e (v : Word) : (setPC v s).e = s.e := rfl
@[simp] theorem setPC_h (v : Word) : (setPC v s).h = s.h := rfl
@[simp] theorem setPC_l (v : Word) : (setPC v s).l = s.l := rfl
@[simp] theorem setPC_sp (v : Word) : (setPC v s).sp = s.sp := rfl
@[simp] theorem setPC_pc (v : Word) : (setPC v s).pc = v := rfl
@[simp] theorem setPC_ime (v : Word) : (setPC v s).ime = s.ime := rfl
@[simp] theorem setPC_halted (v : Word) : (setPC v s).halted = s.halted := rfl
@[simp] theorem setPC_eiPending (v : Word) : (setPC v s).eiPending = s.eiPending := rfl
@[simp] theorem setPC_haltBugPending (v : Word) : (setPC v s).haltBugPending = s.haltBugPending := rfl
@[simp] theorem setPC_ie (v : Word) : (setPC v s).ie = s.ie := rfl
@[simp] theorem setPC_ifr (v : Word) : (setPC v s).ifr = s.ifr := rfl
@[simp] theorem setPC_divider (v : Word) : (setPC v s).divider = s.divider := rfl
@[simp] theorem setPC_tima (v : Word) : (setPC v s).tima = s.tima := rfl
@[simp] theorem setPC_tma (v : Word) : (setPC v s).tma = s.tma := rfl
@[simp] theorem setPC_tac (v : Word) : (setPC v s).tac = s.tac := rfl
@[simp] theorem setPC_timerAccum (v : Word) : (setPC v s).timerAccum = s.timerAccum := rfl
@[simp] theorem setPC_divAccum (v : Word) : (setPC v s).divAccum = s.divAccum := rfl
@[simp] theorem setPC_ramEnabled (v : Word) : (setPC v s).ramEnabled = s.ramEnabled := rfl
@[simp] theorem setPC_primary (v : Word) : (setPC v s).primary = s.primary := rfl
@[simp] theorem setPC_secondary (v : Word) : (setPC v s).secondary = s.secondary := rfl
@[simp] theorem setPC_mode (v : Word) : (setPC v s).mode = s.mode := rfl
@[simp] theorem setPC_mem (v : Word) : (setPC v s).mem = s.mem := rfl
@[simp] theorem setPC_cartRam (v : Word) : (setPC v s).cartRam = s.cartRam := rfl
@[simp] theorem setPC_env (v : Word) : (setPC v s).env = s.env := rfl
@[simp] theorem setPC_cycles (v : Word) : (setPC v s).cycles = s.cycles := rfl
@[simp] theorem setPC_draws (v : Word) : (setPC v s).draws = s.draws := rfl

/-! ### haltedStep -/

@[simp] theorem haltedStep_cfg : (haltedStep s).cfg = s.cfg := rfl
@[simp] theorem haltedStep_cart : (haltedStep s).cart = s.cart := rfl
@[simp] theorem haltedStep_a : (haltedStep s).a = s.a := rfl
@[simp] theorem haltedStep_f : (haltedStep s).f = s.f := rfl
@[simp] theorem haltedStep_b : (haltedStep s).b = s.b := rfl
@[simp] theorem haltedStep_c : (haltedStep s).c = s.c := rfl
@[simp] theorem haltedStep_d : (haltedStep s).d = s.d := rfl
@[simp] theorem haltedStep_e : (haltedStep s).e = s.e := rfl
@[simp] theorem haltedStep_h : (haltedStep s).h = s.h := rfl
@[simp] theorem haltedStep_l : (haltedStep s).l = s.l := rfl
@[simp] theorem haltedStep_sp : (haltedStep s).sp = s.sp := rfl
@[simp] theorem haltedStep_pc : (haltedStep s).pc = s.pc := rfl
@[simp] theorem haltedStep_ime : (haltedStep s).ime = s.ime := rfl
@[simp] theorem haltedStep_halted : (haltedStep s).halted = s.halted := rfl
@[simp] theorem haltedStep_eiPending : (haltedStep s).eiPending = s.eiPending := rfl
@[simp] theorem haltedStep_haltBugPending : (haltedStep s).haltBugPending = s.haltBugPending := rfl
@[simp] theorem haltedStep_ie : (haltedStep s).ie = s.ie := rfl
@[simp] theorem haltedStep_ifr : (haltedStep s).ifr = s.ifr := rfl
@[simp] theorem haltedStep_divider : (haltedStep s).divider = s.divider := rfl
@[simp] theorem haltedStep_tima : (haltedStep s).tima = s.tima := rfl
@[simp] theorem haltedStep_tma : (haltedStep s).tma = s.tma := rfl
@[simp] theorem haltedStep_tac : (haltedStep s).tac = s.tac := rfl
@[simp] theorem haltedStep_timerAccum : (haltedStep s).timerAccum = s.timerAccum := rfl
@[simp] theorem haltedStep_divAccum : (haltedStep s).divAccum = s.divAccum := rfl
@[simp] theorem haltedStep_ramEnabled : (haltedStep s).ramEnabled = s.ramEnabled := rfl
@[simp] theorem haltedStep_primary : (haltedStep s).primary = s.primary := rfl
@[simp] theorem haltedStep_secondary : (haltedStep s).secondary = s.secondary := rfl
@[simp] theorem haltedStep_mode : (haltedStep s).mode = s.mode := rfl
@[simp] theorem haltedStep_mem : (haltedStep s).mem = s.mem := rfl
@[simp] theorem haltedStep_cartRam : (haltedStep s).cartRam = s.cartRam := rfl
@[simp] theorem haltedStep_env : (haltedStep s).env = s.env := rfl
@[simp] theorem haltedStep_cycles : (haltedStep s).cycles = 2 := rfl
@[simp] theorem haltedStep_draws : (haltedStep s).draws = s.draws := rfl

end Sys2Proof.Machine
end

