-- ==== Sys2Proof/Laws/Frame.lean ====
section
/-! SUPPORT. What a read, a write, the stack, the timers and the environment leave alone. -/

namespace Sys2Proof.Machine

variable (s : State)

/-! ### afterRead -/

/-- All that `afterRead` can change. -/
theorem afterRead_frame (x : Word) : afterRead x s = { s with draws := (afterRead x s).draws } := by
  unfold afterRead; split <;> rfl

@[simp] theorem afterRead_cfg (x : Word) : (afterRead x s).cfg = s.cfg := by rw [afterRead_frame]
@[simp] theorem afterRead_cart (x : Word) : (afterRead x s).cart = s.cart := by rw [afterRead_frame]
@[simp] theorem afterRead_a (x : Word) : (afterRead x s).a = s.a := by rw [afterRead_frame]
@[simp] theorem afterRead_f (x : Word) : (afterRead x s).f = s.f := by rw [afterRead_frame]
@[simp] theorem afterRead_b (x : Word) : (afterRead x s).b = s.b := by rw [afterRead_frame]
@[simp] theorem afterRead_c (x : Word) : (afterRead x s).c = s.c := by rw [afterRead_frame]
@[simp] theorem afterRead_d (x : Word) : (afterRead x s).d = s.d := by rw [afterRead_frame]
@[simp] theorem afterRead_e (x : Word) : (afterRead x s).e = s.e := by rw [afterRead_frame]
@[simp] theorem afterRead_h (x : Word) : (afterRead x s).h = s.h := by rw [afterRead_frame]
@[simp] theorem afterRead_l (x : Word) : (afterRead x s).l = s.l := by rw [afterRead_frame]
@[simp] theorem afterRead_sp (x : Word) : (afterRead x s).sp = s.sp := by rw [afterRead_frame]
@[simp] theorem afterRead_pc (x : Word) : (afterRead x s).pc = s.pc := by rw [afterRead_frame]
@[simp] theorem afterRead_ime (x : Word) : (afterRead x s).ime = s.ime := by rw [afterRead_frame]
@[simp] theorem afterRead_halted (x : Word) : (afterRead x s).halted = s.halted := by rw [afterRead_frame]
@[simp] theorem afterRead_eiPending (x : Word) : (afterRead x s).eiPending = s.eiPending := by rw [afterRead_frame]
@[simp] theorem afterRead_haltBugPending (x : Word) : (afterRead x s).haltBugPending = s.haltBugPending := by rw [afterRead_frame]
@[simp] theorem afterRead_ie (x : Word) : (afterRead x s).ie = s.ie := by rw [afterRead_frame]
@[simp] theorem afterRead_ifr (x : Word) : (afterRead x s).ifr = s.ifr := by rw [afterRead_frame]
@[simp] theorem afterRead_divider (x : Word) : (afterRead x s).divider = s.divider := by rw [afterRead_frame]
@[simp] theorem afterRead_tima (x : Word) : (afterRead x s).tima = s.tima := by rw [afterRead_frame]
@[simp] theorem afterRead_tma (x : Word) : (afterRead x s).tma = s.tma := by rw [afterRead_frame]
@[simp] theorem afterRead_tac (x : Word) : (afterRead x s).tac = s.tac := by rw [afterRead_frame]
@[simp] theorem afterRead_timerAccum (x : Word) : (afterRead x s).timerAccum = s.timerAccum := by rw [afterRead_frame]
@[simp] theorem afterRead_divAccum (x : Word) : (afterRead x s).divAccum = s.divAccum := by rw [afterRead_frame]
@[simp] theorem afterRead_ramEnabled (x : Word) : (afterRead x s).ramEnabled = s.ramEnabled := by rw [afterRead_frame]
@[simp] theorem afterRead_primary (x : Word) : (afterRead x s).primary = s.primary := by rw [afterRead_frame]
@[simp] theorem afterRead_secondary (x : Word) : (afterRead x s).secondary = s.secondary := by rw [afterRead_frame]
@[simp] theorem afterRead_mode (x : Word) : (afterRead x s).mode = s.mode := by rw [afterRead_frame]
@[simp] theorem afterRead_mem (x : Word) : (afterRead x s).mem = s.mem := by rw [afterRead_frame]
@[simp] theorem afterRead_cartRam (x : Word) : (afterRead x s).cartRam = s.cartRam := by rw [afterRead_frame]
@[simp] theorem afterRead_env (x : Word) : (afterRead x s).env = s.env := by rw [afterRead_frame]
@[simp] theorem afterRead_cycles (x : Word) : (afterRead x s).cycles = s.cycles := by rw [afterRead_frame]

/-! ### mbc1Write -/

/-- All that `mbc1Write` can change. -/
theorem mbc1Write_frame (x : Word) (v : Byte) : mbc1Write x v s = { s with ramEnabled := (mbc1Write x v s).ramEnabled, primary := (mbc1Write x v s).primary, secondary := (mbc1Write x v s).secondary, mode := (mbc1Write x v s).mode } := by
  unfold mbc1Write; split_ifs <;> rfl

@[simp] theorem mbc1Write_cfg (x : Word) (v : Byte) : (mbc1Write x v s).cfg = s.cfg := by rw [mbc1Write_frame]
@[simp] theorem mbc1Write_cart (x : Word) (v : Byte) : (mbc1Write x v s).cart = s.cart := by rw [mbc1Write_frame]
@[simp] theorem mbc1Write_a (x : Word) (v : Byte) : (mbc1Write x v s).a = s.a := by rw [mbc1Write_frame]
@[simp] theorem mbc1Write_f (x : Word) (v : Byte) : (mbc1Write x v s).f = s.f := by rw [mbc1Write_frame]
@[simp] theorem mbc1Write_b (x : Word) (v : Byte) : (mbc1Write x v s).b = s.b := by rw [mbc1Write_frame]
@[simp] theorem mbc1Write_c (x : Word) (v : Byte) : (mbc1Write x v s).c = s.c := by rw [mbc1Write_frame]
@[simp] theorem mbc1Write_d (x : Word) (v : Byte) : (mbc1Write x v s).d = s.d := by rw [mbc1Write_frame]
@[simp] theorem mbc1Write_e (x : Word) (v : Byte) : (mbc1Write x v s).e = s.e := by rw [mbc1Write_frame]
@[simp] theorem mbc1Write_h (x : Word) (v : Byte) : (mbc1Write x v s).h = s.h := by rw [mbc1Write_frame]
@[simp] theorem mbc1Write_l (x : Word) (v : Byte) : (mbc1Write x v s).l = s.l := by rw [mbc1Write_frame]
@[simp] theorem mbc1Write_sp (x : Word) (v : Byte) : (mbc1Write x v s).sp = s.sp := by rw [mbc1Write_frame]
@[simp] theorem mbc1Write_pc (x : Word) (v : Byte) : (mbc1Write x v s).pc = s.pc := by rw [mbc1Write_frame]
@[simp] theorem mbc1Write_ime (x : Word) (v : Byte) : (mbc1Write x v s).ime = s.ime := by rw [mbc1Write_frame]
@[simp] theorem mbc1Write_halted (x : Word) (v : Byte) : (mbc1Write x v s).halted = s.halted := by rw [mbc1Write_frame]
@[simp] theorem mbc1Write_eiPending (x : Word) (v : Byte) : (mbc1Write x v s).eiPending = s.eiPending := by rw [mbc1Write_frame]
@[simp] theorem mbc1Write_haltBugPending (x : Word) (v : Byte) : (mbc1Write x v s).haltBugPending = s.haltBugPending := by rw [mbc1Write_frame]
@[simp] theorem mbc1Write_ie (x : Word) (v : Byte) : (mbc1Write x v s).ie = s.ie := by rw [mbc1Write_frame]
@[simp] theorem mbc1Write_ifr (x : Word) (v : Byte) : (mbc1Write x v s).ifr = s.ifr := by rw [mbc1Write_frame]
@[simp] theorem mbc1Write_divider (x : Word) (v : Byte) : (mbc1Write x v s).divider = s.divider := by rw [mbc1Write_frame]
@[simp] theorem mbc1Write_tima (x : Word) (v : Byte) : (mbc1Write x v s).tima = s.tima := by rw [mbc1Write_frame]
@[simp] theorem mbc1Write_tma (x : Word) (v : Byte) : (mbc1Write x v s).tma = s.tma := by rw [mbc1Write_frame]
@[simp] theorem mbc1Write_tac (x : Word) (v : Byte) : (mbc1Write x v s).tac = s.tac := by rw [mbc1Write_frame]
@[simp] theorem mbc1Write_timerAccum (x : Word) (v : Byte) : (mbc1Write x v s).timerAccum = s.timerAccum := by rw [mbc1Write_frame]
@[simp] theorem mbc1Write_divAccum (x : Word) (v : Byte) : (mbc1Write x v s).divAccum = s.divAccum := by rw [mbc1Write_frame]
@[simp] theorem mbc1Write_mem (x : Word) (v : Byte) : (mbc1Write x v s).mem = s.mem := by rw [mbc1Write_frame]
@[simp] theorem mbc1Write_cartRam (x : Word) (v : Byte) : (mbc1Write x v s).cartRam = s.cartRam := by rw [mbc1Write_frame]
@[simp] theorem mbc1Write_env (x : Word) (v : Byte) : (mbc1Write x v s).env = s.env := by rw [mbc1Write_frame]
@[simp] theorem mbc1Write_cycles (x : Word) (v : Byte) : (mbc1Write x v s).cycles = s.cycles := by rw [mbc1Write_frame]
@[simp] theorem mbc1Write_draws (x : Word) (v : Byte) : (mbc1Write x v s).draws = s.draws := by rw [mbc1Write_frame]

/-! ### mapperWrite -/

/-- All that `mapperWrite` can change. -/
theorem mapperWrite_frame (x : Word) (v : Byte) : mapperWrite x v s = { s with ramEnabled := (mapperWrite x v s).ramEnabled, primary := (mapperWrite x v s).primary, secondary := (mapperWrite x v s).secondary, mode := (mapperWrite x v s).mode, cartRam := (mapperWrite x v s).cartRam } := by
  unfold mapperWrite
  cases s.cart.kind <;> split_ifs <;> first | rfl | (simp only; rw [mbc1Write_frame])

@[simp] theorem mapperWrite_cfg (x : Word) (v : Byte) : (mapperWrite x v s).cfg = s.cfg := by rw [mapperWrite_frame]
@[simp] theorem mapperWrite_cart (x : Word) (v : Byte) : (mapperWrite x v s).cart = s.cart := by rw [mapperWrite_frame]
@[simp] theorem mapperWrite_a (x : Word) (v : Byte) : (mapperWrite x v s).a = s.a := by rw [mapperWrite_frame]
@[simp] theorem mapperWrite_f (x : Word) (v : Byte) : (mapperWrite x v s).f = s.f := by rw [mapperWrite_frame]
@[simp] theorem mapperWrite_b (x : Word) (v : Byte) : (mapperWrite x v s).b = s.b := by rw [mapperWrite_frame]
@[simp] theorem mapperWrite_c (x : Word) (v : Byte) : (mapperWrite x v s).c = s.c := by rw [mapperWrite_frame]
@[simp] theorem mapperWrite_d (x : Word) (v : Byte) : (mapperWrite x v s).d = s.d := by rw [mapperWrite_frame]
@[simp] theorem mapperWrite_e (x : Word) (v : Byte) : (mapperWrite x v s).e = s.e := by rw [mapperWrite_frame]
@[simp] theorem mapperWrite_h (x : Word) (v : Byte) : (mapperWrite x v s).h = s.h := by rw [mapperWrite_frame]
@[simp] theorem mapperWrite_l (x : Word) (v : Byte) : (mapperWrite x v s).l = s.l := by rw [mapperWrite_frame]
@[simp] theorem mapperWrite_sp (x : Word) (v : Byte) : (mapperWrite x v s).sp = s.sp := by rw [mapperWrite_frame]
@[simp] theorem mapperWrite_pc (x : Word) (v : Byte) : (mapperWrite x v s).pc = s.pc := by rw [mapperWrite_frame]
@[simp] theorem mapperWrite_ime (x : Word) (v : Byte) : (mapperWrite x v s).ime = s.ime := by rw [mapperWrite_frame]
@[simp] theorem mapperWrite_halted (x : Word) (v : Byte) : (mapperWrite x v s).halted = s.halted := by rw [mapperWrite_frame]
@[simp] theorem mapperWrite_eiPending (x : Word) (v : Byte) : (mapperWrite x v s).eiPending = s.eiPending := by rw [mapperWrite_frame]
@[simp] theorem mapperWrite_haltBugPending (x : Word) (v : Byte) : (mapperWrite x v s).haltBugPending = s.haltBugPending := by rw [mapperWrite_frame]
@[simp] theorem mapperWrite_ie (x : Word) (v : Byte) : (mapperWrite x v s).ie = s.ie := by rw [mapperWrite_frame]
@[simp] theorem mapperWrite_ifr (x : Word) (v : Byte) : (mapperWrite x v s).ifr = s.ifr := by rw [mapperWrite_frame]
@[simp] theorem mapperWrite_divider (x : Word) (v : Byte) : (mapperWrite x v s).divider = s.divider := by rw [mapperWrite_frame]
@[simp] theorem mapperWrite_tima (x : Word) (v : Byte) : (mapperWrite x v s).tima = s.tima := by rw [mapperWrite_frame]
@[simp] theorem mapperWrite_tma (x : Word) (v : Byte) : (mapperWrite x v s).tma = s.tma := by rw [mapperWrite_frame]
@[simp] theorem mapperWrite_tac (x : Word) (v : Byte) : (mapperWrite x v s).tac = s.tac := by rw [mapperWrite_frame]
@[simp] theorem mapperWrite_timerAccum (x : Word) (v : Byte) : (mapperWrite x v s).timerAccum = s.timerAccum := by rw [mapperWrite_frame]
@[simp] theorem mapperWrite_divAccum (x : Word) (v : Byte) : (mapperWrite x v s).divAccum = s.divAccum := by rw [mapperWrite_frame]
@[simp] theorem mapperWrite_mem (x : Word) (v : Byte) : (mapperWrite x v s).mem = s.mem := by rw [mapperWrite_frame]
@[simp] theorem mapperWrite_env (x : Word) (v : Byte) : (mapperWrite x v s).env = s.env := by rw [mapperWrite_frame]
@[simp] theorem mapperWrite_cycles (x : Word) (v : Byte) : (mapperWrite x v s).cycles = s.cycles := by rw [mapperWrite_frame]
@[simp] theorem mapperWrite_draws (x : Word) (v : Byte) : (mapperWrite x v s).draws = s.draws := by rw [mapperWrite_frame]

/-! ### ioWrite -/

/-- All that `ioWrite` can change. -/
theorem ioWrite_frame (x : Word) (v : Byte) : ioWrite x v s = { s with ifr := (ioWrite x v s).ifr, divider := (ioWrite x v s).divider, tima := (ioWrite x v s).tima, tma := (ioWrite x v s).tma, tac := (ioWrite x v s).tac, mem := (ioWrite x v s).mem } := by
  unfold ioWrite; split_ifs <;> rfl

@[simp] theorem ioWrite_cfg (x : Word) (v : Byte) : (ioWrite x v s).cfg = s.cfg := by rw [ioWrite_frame]
@[simp] theorem ioWrite_cart (x : Word) (v : Byte) : (ioWrite x v s).cart = s.cart := by rw [ioWrite_frame]
@[simp] theorem ioWrite_a (x : Word) (v : Byte) : (ioWrite x v s).a = s.a := by rw [ioWrite_frame]
@[simp] theorem ioWrite_f (x : Word) (v : Byte) : (ioWrite x v s).f = s.f := by rw [ioWrite_frame]
@[simp] theorem ioWrite_b (x : Word) (v : Byte) : (ioWrite x v s).b = s.b := by rw [ioWrite_frame]
@[simp] theorem ioWrite_c (x : Word) (v : Byte) : (ioWrite x v s).c = s.c := by rw [ioWrite_frame]
@[simp] theorem ioWrite_d (x : Word) (v : Byte) : (ioWrite x v s).d = s.d := by rw [ioWrite_frame]
@[simp] theorem ioWrite_e (x : Word) (v : Byte) : (ioWrite x v s).e = s.e := by rw [ioWrite_frame]
@[simp] theorem ioWrite_h (x : Word) (v : Byte) : (ioWrite x v s).h = s.h := by rw [ioWrite_frame]
@[simp] theorem ioWrite_l (x : Word) (v : Byte) : (ioWrite x v s).l = s.l := by rw [ioWrite_frame]
@[simp] theorem ioWrite_sp (x : Word) (v : Byte) : (ioWrite x v s).sp = s.sp := by rw [ioWrite_frame]
@[simp] theorem ioWrite_pc (x : Word) (v : Byte) : (ioWrite x v s).pc = s.pc := by rw [ioWrite_frame]
@[simp] theorem ioWrite_ime (x : Word) (v : Byte) : (ioWrite x v s).ime = s.ime := by rw [ioWrite_frame]
@[simp] theorem ioWrite_halted (x : Word) (v : Byte) : (ioWrite x v s).halted = s.halted := by rw [ioWrite_frame]
@[simp] theorem ioWrite_eiPending (x : Word) (v : Byte) : (ioWrite x v s).eiPending = s.eiPending := by rw [ioWrite_frame]
@[simp] theorem ioWrite_haltBugPending (x : Word) (v : Byte) : (ioWrite x v s).haltBugPending = s.haltBugPending := by rw [ioWrite_frame]
@[simp] theorem ioWrite_ie (x : Word) (v : Byte) : (ioWrite x v s).ie = s.ie := by rw [ioWrite_frame]
@[simp] theorem ioWrite_timerAccum (x : Word) (v : Byte) : (ioWrite x v s).timerAccum = s.timerAccum := by rw [ioWrite_frame]
@[simp] theorem ioWrite_divAccum (x : Word) (v : Byte) : (ioWrite x v s).divAccum = s.divAccum := by rw [ioWrite_frame]
@[simp] theorem ioWrite_ramEnabled (x : Word) (v : Byte) : (ioWrite x v s).ramEnabled = s.ramEnabled := by rw [ioWrite_frame]
@[simp] theorem ioWrite_primary (x : Word) (v : Byte) : (ioWrite x v s).primary = s.primary := by rw [ioWrite_frame]
@[simp] theorem ioWrite_secondary (x : Word) (v : Byte) : (ioWrite x v s).secondary = s.secondary := by rw [ioWrite_frame]
@[simp] theorem ioWrite_mode (x : Word) (v : Byte) : (ioWrite x v s).mode = s.mode := by rw [ioWrite_frame]
@[simp] theorem ioWrite_cartRam (x : Word) (v : Byte) : (ioWrite x v s).cartRam = s.cartRam := by rw [ioWrite_frame]
@[simp] theorem ioWrite_env (x : Word) (v : Byte) : (ioWrite x v s).env = s.env := by rw [ioWrite_frame]
@[simp] theorem ioWrite_cycles (x : Word) (v : Byte) : (ioWrite x v s).cycles = s.cycles := by rw [ioWrite_frame]
@[simp] theorem ioWrite_draws (x : Word) (v : Byte) : (ioWrite x v s).draws = s.draws := by rw [ioWrite_frame]

/-! ### store -/

/-- All that `store` can change. -/
theorem store_frame (x : Word) (v : Byte) : store x v s = { s with ie := (store x v s).ie, ifr := (store x v s).ifr, divider := (store x v s).divider, tima := (store x v s).tima, tma := (store x v s).tma, tac := (store x v s).tac, ramEnabled := (store x v s).ramEnabled, primary := (store x v s).primary, secondary := (store x v s).secondary, mode := (store x v s).mode, mem := (store x v s).mem, cartRam := (store x v s).cartRam } := by
  unfold store
  split_ifs <;> first | rfl | rw [mapperWrite_frame] | rw [ioWrite_frame]

@[simp] theorem store_cfg (x : Word) (v : Byte) : (store x v s).cfg = s.cfg := by rw [store_frame]
@[simp] theorem store_cart (x : Word) (v : Byte) : (store x v s).cart = s.cart := by rw [store_frame]
@[simp] theorem store_a (x : Word) (v : Byte) : (store x v s).a = s.a := by rw [store_frame]
@[simp] theorem store_f (x : Word) (v : Byte) : (store x v s).f = s.f := by rw [store_frame]
@[simp] theorem store_b (x : Word) (v : Byte) : (store x v s).b = s.b := by rw [store_frame]
@[simp] theorem store_c (x : Word) (v : Byte) : (store x v s).c = s.c := by rw [store_frame]
@[simp] theorem store_d (x : Word) (v : Byte) : (store x v s).d = s.d := by rw [store_frame]
@[simp] theorem store_e (x : Word) (v : Byte) : (store x v s).e = s.e := by rw [store_frame]
@[simp] theorem store_h (x : Word) (v : Byte) : (store x v s).h = s.h := by rw [store_frame]
@[simp] theorem store_l (x : Word) (v : Byte) : (store x v s).l = s.l := by rw [store_frame]
@[simp] theorem store_sp (x : Word) (v : Byte) : (store x v s).sp = s.sp := by rw [store_frame]
@[simp] theorem store_pc (x : Word) (v : Byte) : (store x v s).pc = s.pc := by rw [store_frame]
@[simp] theorem store_ime (x : Word) (v : Byte) : (store x v s).ime = s.ime := by rw [store_frame]
@[simp] theorem store_halted (x : Word) (v : Byte) : (store x v s).halted = s.halted := by rw [store_frame]
@[simp] theorem store_eiPending (x : Word) (v : Byte) : (store x v s).eiPending = s.eiPending := by rw [store_frame]
@[simp] theorem store_haltBugPending (x : Word) (v : Byte) : (store x v s).haltBugPending = s.haltBugPending := by rw [store_frame]
@[simp] theorem store_timerAccum (x : Word) (v : Byte) : (store x v s).timerAccum = s.timerAccum := by rw [store_frame]
@[simp] theorem store_divAccum (x : Word) (v : Byte) : (store x v s).divAccum = s.divAccum := by rw [store_frame]
@[simp] theorem store_env (x : Word) (v : Byte) : (store x v s).env = s.env := by rw [store_frame]
@[simp] theorem store_cycles (x : Word) (v : Byte) : (store x v s).cycles = s.cycles := by rw [store_frame]
@[simp] theorem store_draws (x : Word) (v : Byte) : (store x v s).draws = s.draws := by rw [store_frame]

/-! ### pushed -/

/-- All that `pushed` can change. -/
theorem pushed_frame (v : Word) : pushed v s = { s with sp := (pushed v s).sp, ie := (pushed v s).ie, ifr := (pushed v s).ifr, divider := (pushed v s).divider, tima := (pushed v s).tima, tma := (pushed v s).tma, tac := (pushed v s).tac, ramEnabled := (pushed v s).ramEnabled, primary := (pushed v s).primary, secondary := (pushed v s).secondary, mode := (pushed v s).mode, mem := (pushed v s).mem, cartRam := (pushed v s).cartRam } := by
  unfold pushed
  rw [store_frame (store _ _ _), store_frame]

@[simp] theorem pushed_cfg (v : Word) : (pushed v s).cfg = s.cfg := by rw [pushed_frame]
@[simp] theorem pushed_cart (v : Word) : (pushed v s).cart = s.cart := by rw [pushed_frame]
@[simp] theorem pushed_a (v : Word) : (pushed v s).a = s.a := by rw [pushed_frame]
@[simp] theorem pushed_f (v : Word) : (pushed v s).f = s.f := by rw [pushed_frame]
@[simp] theorem pushed_b (v : Word) : (pushed v s).b = s.b := by rw [pushed_frame]
@[simp] theorem pushed_c (v : Word) : (pushed v s).c = s.c := by rw [pushed_frame]
@[simp] theorem pushed_d (v : Word) : (pushed v s).d = s.d := by rw [pushed_frame]
@[simp] theorem pushed_e (v : Word) : (pushed v s).e = s.e := by rw [pushed_frame]
@[simp] theorem pushed_h (v : Word) : (pushed v s).h = s.h := by rw [pushed_frame]
@[simp] theorem pushed_l (v : Word) : (pushed v s).l = s.l := by rw [pushed_frame]
@[simp] theorem pushed_pc (v : Word) : (pushed v s).pc = s.pc := by rw [pushed_frame]
@[simp] theorem pushed_ime (v : Word) : (pushed v s).ime = s.ime := by rw [pushed_frame]
@[simp] theorem pushed_halted (v : Word) : (pushed v s).halted = s.halted := by rw [pushed_frame]
@[simp] theorem pushed_eiPending (v : Word) : (pushed v s).eiPending = s.eiPending := by rw [pushed_frame]
@[simp] theorem pushed_haltBugPending (v : Word) : (pushed v s).haltBugPending = s.haltBugPending := by rw [pushed_frame]
@[simp] theorem pushed_timerAccum (v : Word) : (pushed v s).timerAccum = s.timerAccum := by rw [pushed_frame]
@[simp] theorem pushed_divAccum (v : Word) : (pushed v s).divAccum = s.divAccum := by rw [pushed_frame]
@[simp] theorem pushed_env (v : Word) : (pushed v s).env = s.env := by rw [pushed_frame]
@[simp] theorem pushed_cycles (v : Word) : (pushed v s).cycles = s.cycles := by rw [pushed_frame]
@[simp] theorem pushed_draws (v : Word) : (pushed v s).draws = s.draws := by rw [pushed_frame]
@[simp] theorem pushed_sp (v : Word) : (pushed v s).sp = s.sp - 2 := by simp [pushed]

/-! ### afterPop -/

/-- All that `afterPop` can change. -/
theorem afterPop_frame : afterPop s = { s with sp := (afterPop s).sp, draws := (afterPop s).draws } := by
  unfold afterPop
  rw [afterRead_frame (afterRead _ _), afterRead_frame]

@[simp] theorem afterPop_cfg : (afterPop s).cfg = s.cfg := by rw [afterPop_frame]
@[simp] theorem afterPop_cart : (afterPop s).cart = s.cart := by rw [afterPop_frame]
@[simp] theorem afterPop_a : (afterPop s).a = s.a := by rw [afterPop_frame]
@[simp] theorem afterPop_f : (afterPop s).f = s.f := by rw [afterPop_frame]
@[simp] theorem afterPop_b : (afterPop s).b = s.b := by rw [afterPop_frame]
@[simp] theorem afterPop_c : (afterPop s).c = s.c := by rw [afterPop_frame]
@[simp] theorem afterPop_d : (afterPop s).d = s.d := by rw [afterPop_frame]
@[simp] theorem afterPop_e : (afterPop s).e = s.e := by rw [afterPop_frame]
@[simp] theorem afterPop_h : (afterPop s).h = s.h := by rw [afterPop_frame]
@[simp] theorem afterPop_l : (afterPop s).l = s.l := by rw [afterPop_frame]
@[simp] theorem afterPop_pc : (afterPop s).pc = s.pc := by rw [afterPop_frame]
@[simp] theorem afterPop_ime : (afterPop s).ime = s.ime := by rw [afterPop_frame]
@[simp] theorem afterPop_halted : (afterPop s).halted = s.halted := by rw [afterPop_frame]
@[simp] theorem afterPop_eiPending : (afterPop s).eiPending = s.eiPending := by rw [afterPop_frame]
@[simp] theorem afterPop_haltBugPending : (afterPop s).haltBugPending = s.haltBugPending := by rw [afterPop_frame]
@[simp] theorem afterPop_ie : (afterPop s).ie = s.ie := by rw [afterPop_frame]
@[simp] theorem afterPop_ifr : (afterPop s).ifr = s.ifr := by rw [afterPop_frame]
@[simp] theorem afterPop_divider : (afterPop s).divider = s.divider := by rw [afterPop_frame]
@[simp] theorem afterPop_tima : (afterPop s).tima = s.tima := by rw [afterPop_frame]
@[simp] theorem afterPop_tma : (afterPop s).tma = s.tma := by rw [afterPop_frame]
@[simp] theorem afterPop_tac : (afterPop s).tac = s.tac := by rw [afterPop_frame]
@[simp] theorem afterPop_timerAccum : (afterPop s).timerAccum = s.timerAccum := by rw [afterPop_frame]
@[simp] theorem afterPop_divAccum : (afterPop s).divAccum = s.divAccum := by rw [afterPop_frame]
@[simp] theorem afterPop_ramEnabled : (afterPop s).ramEnabled = s.ramEnabled := by rw [afterPop_frame]
@[simp] theorem afterPop_primary : (afterPop s).primary = s.primary := by rw [afterPop_frame]
@[simp] theorem afterPop_secondary : (afterPop s).secondary = s.secondary := by rw [afterPop_frame]
@[simp] theorem afterPop_mode : (afterPop s).mode = s.mode := by rw [afterPop_frame]
@[simp] theorem afterPop_mem : (afterPop s).mem = s.mem := by rw [afterPop_frame]
@[simp] theorem afterPop_cartRam : (afterPop s).cartRam = s.cartRam := by rw [afterPop_frame]
@[simp] theorem afterPop_env : (afterPop s).env = s.env := by rw [afterPop_frame]
@[simp] theorem afterPop_cycles : (afterPop s).cycles = s.cycles := by rw [afterPop_frame]
@[simp] theorem afterPop_sp : (afterPop s).sp = s.sp + 2 := rfl

/-! ### afterOpnd -/

/-- All that `afterOpnd` can change. -/
theorem afterOpnd_frame (r : R8) : afterOpnd r s = { s with draws := (afterOpnd r s).draws } := by
  cases r <;> first | rfl | exact afterRead_frame s _

@[simp] theorem afterOpnd_cfg (r : R8) : (afterOpnd r s).cfg = s.cfg := by rw [afterOpnd_frame]
@[simp] theorem afterOpnd_cart (r : R8) : (afterOpnd r s).cart = s.cart := by rw [afterOpnd_frame]
@[simp] theorem afterOpnd_a (r : R8) : (afterOpnd r s).a = s.a := by rw [afterOpnd_frame]
@[simp] theorem afterOpnd_f (r : R8) : (afterOpnd r s).f = s.f := by rw [afterOpnd_frame]
@[simp] theorem afterOpnd_b (r : R8) : (afterOpnd r s).b = s.b := by rw [afterOpnd_frame]
@[simp] theorem afterOpnd_c (r : R8) : (afterOpnd r s).c = s.c := by rw [afterOpnd_frame]
@[simp] theorem afterOpnd_d (r : R8) : (afterOpnd r s).d = s.d := by rw [afterOpnd_frame]
@[simp] theorem afterOpnd_e (r : R8) : (afterOpnd r s).e = s.e := by rw [afterOpnd_frame]
@[simp] theorem afterOpnd_h (r : R8) : (afterOpnd r s).h = s.h := by rw [afterOpnd_frame]
@[simp] theorem afterOpnd_l (r : R8) : (afterOpnd r s).l = s.l := by rw [afterOpnd_frame]
@[simp] theorem afterOpnd_sp (r : R8) : (afterOpnd r s).sp = s.sp := by rw [afterOpnd_frame]
@[simp] theorem afterOpnd_pc (r : R8) : (afterOpnd r s).pc = s.pc := by rw [afterOpnd_frame]
@[simp] theorem afterOpnd_ime (r : R8) : (afterOpnd r s).ime = s.ime := by rw [afterOpnd_frame]
@[simp] theorem afterOpnd_halted (r : R8) : (afterOpnd r s).halted = s.halted := by rw [afterOpnd_frame]
@[simp] theorem afterOpnd_eiPending (r : R8) : (afterOpnd r s).eiPending = s.eiPending := by rw [afterOpnd_frame]
@[simp] theorem afterOpnd_haltBugPending (r : R8) : (afterOpnd r s).haltBugPending = s.haltBugPending := by rw [afterOpnd_frame]
@[simp] theorem afterOpnd_ie (r : R8) : (afterOpnd r s).ie = s.ie := by rw [afterOpnd_frame]
@[simp] theorem afterOpnd_ifr (r : R8) : (afterOpnd r s).ifr = s.ifr := by rw [afterOpnd_frame]
@[simp] theorem afterOpnd_divider (r : R8) : (afterOpnd r s).divider = s.divider := by rw [afterOpnd_frame]
@[simp] theorem afterOpnd_tima (r : R8) : (afterOpnd r s).tima = s.tima := by rw [afterOpnd_frame]
@[simp] theorem afterOpnd_tma (r : R8) : (afterOpnd r s).tma = s.tma := by rw [afterOpnd_frame]
@[simp] theorem afterOpnd_tac (r : R8) : (afterOpnd r s).tac = s.tac := by rw [afterOpnd_frame]
@[simp] theorem afterOpnd_timerAccum (r : R8) : (afterOpnd r s).timerAccum = s.timerAccum := by rw [afterOpnd_frame]
@[simp] theorem afterOpnd_divAccum (r : R8) : (afterOpnd r s).divAccum = s.divAccum := by rw [afterOpnd_frame]
@[simp] theorem afterOpnd_ramEnabled (r : R8) : (afterOpnd r s).ramEnabled = s.ramEnabled := by rw [afterOpnd_frame]
@[simp] theorem afterOpnd_primary (r : R8) : (afterOpnd r s).primary = s.primary := by rw [afterOpnd_frame]
@[simp] theorem afterOpnd_secondary (r : R8) : (afterOpnd r s).secondary = s.secondary := by rw [afterOpnd_frame]
@[simp] theorem afterOpnd_mode (r : R8) : (afterOpnd r s).mode = s.mode := by rw [afterOpnd_frame]
@[simp] theorem afterOpnd_mem (r : R8) : (afterOpnd r s).mem = s.mem := by rw [afterOpnd_frame]
@[simp] theorem afterOpnd_cartRam (r : R8) : (afterOpnd r s).cartRam = s.cartRam := by rw [afterOpnd_frame]
@[simp] theorem afterOpnd_env (r : R8) : (afterOpnd r s).env = s.env := by rw [afterOpnd_frame]
@[simp] theorem afterOpnd_cycles (r : R8) : (afterOpnd r s).cycles = s.cycles := by rw [afterOpnd_frame]

/-! ### put -/

/-- All that `put` can change. -/
theorem put_frame (r : R8) (v : Byte) : put r v s = { s with a := (put r v s).a, b := (put r v s).b, c := (put r v s).c, d := (put r v s).d, e := (put r v s).e, h := (put r v s).h, l := (put r v s).l, ie := (put r v s).ie, ifr := (put r v s).ifr, divider := (put r v s).divider, tima := (put r v s).tima, tma := (put r v s).tma, tac := (put r v s).tac, ramEnabled := (put r v s).ramEnabled, primary := (put r v s).primary, secondary := (put r v s).secondary, mode := (put r v s).mode, mem := (put r v s).mem, cartRam := (put r v s).cartRam } := by
  cases r <;> first | rfl | (unfold put; simp only; rw [store_frame])

@[simp] theorem put_cfg (r : R8) (v : Byte) : (put r v s).cfg = s.cfg := by rw [put_frame]
@[simp] theorem put_cart (r : R8) (v : Byte) : (put r v s).cart = s.cart := by rw [put_frame]
@[simp] theorem put_f (r : R8) (v : Byte) : (put r v s).f = s.f := by rw [put_frame]
@[simp] theorem put_sp (r : R8) (v : Byte) : (put r v s).sp = s.sp := by rw [put_frame]
@[simp] theorem put_pc (r : R8) (v : Byte) : (put r v s).pc = s.pc := by rw [put_frame]
@[simp] theorem put_ime (r : R8) (v : Byte) : (put r v s).ime = s.ime := by rw [put_frame]
@[simp] theorem put_halted (r : R8) (v : Byte) : (put r v s).halted = s.halted := by rw [put_frame]
@[simp] theorem put_eiPending (r : R8) (v : Byte) : (put r v s).eiPending = s.eiPending := by rw [put_frame]
@[simp] theorem put_haltBugPending (r : R8) (v : Byte) : (put r v s).haltBugPending = s.haltBugPending := by rw [put_frame]
@[simp] theorem put_timerAccum (r : R8) (v : Byte) : (put r v s).timerAccum = s.timerAccum := by rw [put_frame]
@[simp] theorem put_divAccum (r : R8) (v : Byte) : (put r v s).divAccum = s.divAccum := by rw [put_frame]
@[simp] theorem put_env (r : R8) (v : Byte) : (put r v s).env = s.env := by rw [put_frame]
@[simp] theorem put_cycles (r : R8) (v : Byte) : (put r v s).cycles = s.cycles := by rw [put_frame]
@[simp] theorem put_draws (r : R8) (v : Byte) : (put r v s).draws = s.draws := by rw [put_frame]

/-! ### writeR16 -/

/-- All that `writeR16` can change. -/
theorem writeR16_frame (r : R16) (v : Word) : writeR16 r v s = { s with b := (writeR16 r v s).b, c := (writeR16 r v s).c, d := (writeR16 r v s).d, e := (writeR16 r v s).e, h := (writeR16 r v s).h, l := (writeR16 r v s).l, sp := (writeR16 r v s).sp } := by
  cases r <;> rfl

@[simp] theorem writeR16_cfg (r : R16) (v : Word) : (writeR16 r v s).cfg = s.cfg := by rw [writeR16_frame]
@[simp] theorem writeR16_cart (r : R16) (v : Word) : (writeR16 r v s).cart = s.cart := by rw [writeR16_frame]
@[simp] theorem writeR16_a (r : R16) (v : Word) : (writeR16 r v s).a = s.a := by rw [writeR16_frame]
@[simp] theorem writeR16_f (r : R16) (v : Word) : (writeR16 r v s).f = s.f := by rw [writeR16_frame]
@[simp] theorem writeR16_pc (r : R16) (v : Word) : (writeR16 r v s).pc = s.pc := by rw [writeR16_frame]
@[simp] theorem writeR16_ime (r : R16) (v : Word) : (writeR16 r v s).ime = s.ime := by rw [writeR16_frame]
@[simp] theorem writeR16_halted (r : R16) (v : Word) : (writeR16 r v s).halted = s.halted := by rw [writeR16_frame]
@[simp] theorem writeR16_eiPending (r : R16) (v : Word) : (writeR16 r v s).eiPending = s.eiPending := by rw [writeR16_frame]
@[simp] theorem writeR16_haltBugPending (r : R16) (v : Word) : (writeR16 r v s).haltBugPending = s.haltBugPending := by rw [writeR16_frame]
@[simp] theorem writeR16_ie (r : R16) (v : Word) : (writeR16 r v s).ie = s.ie := by rw [writeR16_frame]
@[simp] theorem writeR16_ifr (r : R16) (v : Word) : (writeR16 r v s).ifr = s.ifr := by rw [writeR16_frame]
@[simp] theorem writeR16_divider (r : R16) (v : Word) : (writeR16 r v s).divider = s.divider := by rw [writeR16_frame]
@[simp] theorem writeR16_tima (r : R16) (v : Word) : (writeR16 r v s).tima = s.tima := by rw [writeR16_frame]
@[simp] theorem writeR16_tma (r : R16) (v : Word) : (writeR16 r v s).tma = s.tma := by rw [writeR16_frame]
@[simp] theorem writeR16_tac (r : R16) (v : Word) : (writeR16 r v s).tac = s.tac := by rw [writeR16_frame]
@[simp] theorem writeR16_timerAccum (r : R16) (v : Word) : (writeR16 r v s).timerAccum = s.timerAccum := by rw [writeR16_frame]
@[simp] theorem writeR16_divAccum (r : R16) (v : Word) : (writeR16 r v s).divAccum = s.divAccum := by rw [writeR16_frame]
@[simp] theorem writeR16_ramEnabled (r : R16) (v : Word) : (writeR16 r v s).ramEnabled = s.ramEnabled := by rw [writeR16_frame]
@[simp] theorem writeR16_primary (r : R16) (v : Word) : (writeR16 r v s).primary = s.primary := by rw [writeR16_frame]
@[simp] theorem writeR16_secondary (r : R16) (v : Word) : (writeR16 r v s).secondary = s.secondary := by rw [writeR16_frame]
@[simp] theorem writeR16_mode (r : R16) (v : Word) : (writeR16 r v s).mode = s.mode := by rw [writeR16_frame]
@[simp] theorem writeR16_mem (r : R16) (v : Word) : (writeR16 r v s).mem = s.mem := by rw [writeR16_frame]
@[simp] theorem writeR16_cartRam (r : R16) (v : Word) : (writeR16 r v s).cartRam = s.cartRam := by rw [writeR16_frame]
@[simp] theorem writeR16_env (r : R16) (v : Word) : (writeR16 r v s).env = s.env := by rw [writeR16_frame]
@[simp] theorem writeR16_cycles (r : R16) (v : Word) : (writeR16 r v s).cycles = s.cycles := by rw [writeR16_frame]
@[simp] theorem writeR16_draws (r : R16) (v : Word) : (writeR16 r v s).draws = s.draws := by rw [writeR16_frame]

/-! ### writeStk -/

/-- All that `writeStk` can change. -/
theorem writeStk_frame (r : R16Stk) (v : Word) : writeStk r v s = { s with a := (writeStk r v s).a, f := (writeStk r v s).f, b := (writeStk r v s).b, c := (writeStk r v s).c, d := (writeStk r v s).d, e := (writeStk r v s).e, h := (writeStk r v s).h, l := (writeStk r v s).l } := by
  cases r <;> rfl

@[simp] theorem writeStk_cfg (r : R16Stk) (v : Word) : (writeStk r v s).cfg = s.cfg := by rw [writeStk_frame]
@[simp] theorem writeStk_cart (r : R16Stk) (v : Word) : (writeStk r v s).cart = s.cart := by rw [writeStk_frame]
@[simp] theorem writeStk_sp (r : R16Stk) (v : Word) : (writeStk r v s).sp = s.sp := by rw [writeStk_frame]
@[simp] theorem writeStk_pc (r : R16Stk) (v : Word) : (writeStk r v s).pc = s.pc := by rw [writeStk_frame]
@[simp] theorem writeStk_ime (r : R16Stk) (v : Word) : (writeStk r v s).ime = s.ime := by rw [writeStk_frame]
@[simp] theorem writeStk_halted (r : R16Stk) (v : Word) : (writeStk r v s).halted = s.halted := by rw [writeStk_frame]
@[simp] theorem writeStk_eiPending (r : R16Stk) (v : Word) : (writeStk r v s).eiPending = s.eiPending := by rw [writeStk_frame]
@[simp] theorem writeStk_haltBugPending (r : R16Stk) (v : Word) : (writeStk r v s).haltBugPending = s.haltBugPending := by rw [writeStk_frame]
@[simp] theorem writeStk_ie (r : R16Stk) (v : Word) : (writeStk r v s).ie = s.ie := by rw [writeStk_frame]
@[simp] theorem writeStk_ifr (r : R16Stk) (v : Word) : (writeStk r v s).ifr = s.ifr := by rw [writeStk_frame]
@[simp] theorem writeStk_divider (r : R16Stk) (v : Word) : (writeStk r v s).divider = s.divider := by rw [writeStk_frame]
@[simp] theorem writeStk_tima (r : R16Stk) (v : Word) : (writeStk r v s).tima = s.tima := by rw [writeStk_frame]
@[simp] theorem writeStk_tma (r : R16Stk) (v : Word) : (writeStk r v s).tma = s.tma := by rw [writeStk_frame]
@[simp] theorem writeStk_tac (r : R16Stk) (v : Word) : (writeStk r v s).tac = s.tac := by rw [writeStk_frame]
@[simp] theorem writeStk_timerAccum (r : R16Stk) (v : Word) : (writeStk r v s).timerAccum = s.timerAccum := by rw [writeStk_frame]
@[simp] theorem writeStk_divAccum (r : R16Stk) (v : Word) : (writeStk r v s).divAccum = s.divAccum := by rw [writeStk_frame]
@[simp] theorem writeStk_ramEnabled (r : R16Stk) (v : Word) : (writeStk r v s).ramEnabled = s.ramEnabled := by rw [writeStk_frame]
@[simp] theorem writeStk_primary (r : R16Stk) (v : Word) : (writeStk r v s).primary = s.primary := by rw [writeStk_frame]
@[simp] theorem writeStk_secondary (r : R16Stk) (v : Word) : (writeStk r v s).secondary = s.secondary := by rw [writeStk_frame]
@[simp] theorem writeStk_mode (r : R16Stk) (v : Word) : (writeStk r v s).mode = s.mode := by rw [writeStk_frame]
@[simp] theorem writeStk_mem (r : R16Stk) (v : Word) : (writeStk r v s).mem = s.mem := by rw [writeStk_frame]
@[simp] theorem writeStk_cartRam (r : R16Stk) (v : Word) : (writeStk r v s).cartRam = s.cartRam := by rw [writeStk_frame]
@[simp] theorem writeStk_env (r : R16Stk) (v : Word) : (writeStk r v s).env = s.env := by rw [writeStk_frame]
@[simp] theorem writeStk_cycles (r : R16Stk) (v : Word) : (writeStk r v s).cycles = s.cycles := by rw [writeStk_frame]
@[simp] theorem writeStk_draws (r : R16Stk) (v : Word) : (writeStk r v s).draws = s.draws := by rw [writeStk_frame]

/-! ### wake -/

/-- All that `wake` can change. -/
theorem wake_frame : wake s = { s with halted := (wake s).halted } := by
  unfold wake; split <;> rfl

@[simp] theorem wake_cfg : (wake s).cfg = s.cfg := by rw [wake_frame]
@[simp] theorem wake_cart : (wake s).cart = s.cart := by rw [wake_frame]
@[simp] theorem wake_a : (wake s).a = s.a := by rw [wake_frame]
@[simp] theorem wake_f : (wake s).f = s.f := by rw [wake_frame]
@[simp] theorem wake_b : (wake s).b = s.b := by rw [wake_frame]
@[simp] theorem wake_c : (wake s).c = s.c := by rw [wake_frame]
@[simp] theorem wake_d : (wake s).d = s.d := by rw [wake_frame]
@[simp] theorem wake_e : (wake s).e = s.e := by rw [wake_frame]
@[simp] theorem wake_h : (wake s).h = s.h := by rw [wake_frame]
@[simp] theorem wake_l : (wake s).l = s.l := by rw [wake_frame]
@[simp] theorem wake_sp : (wake s).sp = s.sp := by rw [wake_frame]
@[simp] theorem wake_pc : (wake s).pc = s.pc := by rw [wake_frame]
@[simp] theorem wake_ime : (wake s).ime = s.ime := by rw [wake_frame]
@[simp] theorem wake_eiPending : (wake s).eiPending = s.eiPending := by rw [wake_frame]
@[simp] theorem wake_haltBugPending : (wake s).haltBugPending = s.haltBugPending := by rw [wake_frame]
@[simp] theorem wake_ie : (wake s).ie = s.ie := by rw [wake_frame]
@[simp] theorem wake_ifr : (wake s).ifr = s.ifr := by rw [wake_frame]
@[simp] theorem wake_divider : (wake s).divider = s.divider := by rw [wake_frame]
@[simp] theorem wake_tima : (wake s).tima = s.tima := by rw [wake_frame]
@[simp] theorem wake_tma : (wake s).tma = s.tma := by rw [wake_frame]
@[simp] theorem wake_tac : (wake s).tac = s.tac := by rw [wake_frame]
@[simp] theorem wake_timerAccum : (wake s).timerAccum = s.timerAccum := by rw [wake_frame]
@[simp] theorem wake_divAccum : (wake s).divAccum = s.divAccum := by rw [wake_frame]
@[simp] theorem wake_ramEnabled : (wake s).ramEnabled = s.ramEnabled := by rw [wake_frame]
@[simp] theorem wake_primary : (wake s).primary = s.primary := by rw [wake_frame]
@[simp] theorem wake_secondary : (wake s).secondary = s.secondary := by rw [wake_frame]
@[simp] theorem wake_mode : (wake s).mode = s.mode := by rw [wake_frame]
@[simp] theorem wake_mem : (wake s).mem = s.mem := by rw [wake_frame]
@[simp] theorem wake_cartRam : (wake s).cartRam = s.cartRam := by rw [wake_frame]
@[simp] theorem wake_env : (wake s).env = s.env := by rw [wake_frame]
@[simp] theorem wake_cycles : (wake s).cycles = s.cycles := by rw [wake_frame]
@[simp] theorem wake_draws : (wake s).draws = s.draws := by rw [wake_frame]

/-! ### settleEi -/

/-- All that `settleEi` can change. -/
theorem settleEi_frame (armed : Bool) : settleEi armed s = { s with ime := (settleEi armed s).ime, eiPending := (settleEi armed s).eiPending } := by
  unfold settleEi; split <;> rfl

@[simp] theorem settleEi_cfg (armed : Bool) : (settleEi armed s).cfg = s.cfg := by rw [settleEi_frame]
@[simp] theorem settleEi_cart (armed : Bool) : (settleEi armed s).cart = s.cart := by rw [settleEi_frame]
@[simp] theorem settleEi_a (armed : Bool) : (settleEi armed s).a = s.a := by rw [settleEi_frame]
@[simp] theorem settleEi_f (armed : Bool) : (settleEi armed s).f = s.f := by rw [settleEi_frame]
@[simp] theorem settleEi_b (armed : Bool) : (settleEi armed s).b = s.b := by rw [settleEi_frame]
@[simp] theorem settleEi_c (armed : Bool) : (settleEi armed s).c = s.c := by rw [settleEi_frame]
@[simp] theorem settleEi_d (armed : Bool) : (settleEi armed s).d = s.d := by rw [settleEi_frame]
@[simp] theorem settleEi_e (armed : Bool) : (settleEi armed s).e = s.e := by rw [settleEi_frame]
@[simp] theorem settleEi_h (armed : Bool) : (settleEi armed s).h = s.h := by rw [settleEi_frame]
@[simp] theorem settleEi_l (armed : Bool) : (settleEi armed s).l = s.l := by rw [settleEi_frame]
@[simp] theorem settleEi_sp (armed : Bool) : (settleEi armed s).sp = s.sp := by rw [settleEi_frame]
@[simp] theorem settleEi_pc (armed : Bool) : (settleEi armed s).pc = s.pc := by rw [settleEi_frame]
@[simp] theorem settleEi_halted (armed : Bool) : (settleEi armed s).halted = s.halted := by rw [settleEi_frame]
@[simp] theorem settleEi_haltBugPending (armed : Bool) : (settleEi armed s).haltBugPending = s.haltBugPending := by rw [settleEi_frame]
@[simp] theorem settleEi_ie (armed : Bool) : (settleEi armed s).ie = s.ie := by rw [settleEi_frame]
@[simp] theorem settleEi_ifr (armed : Bool) : (settleEi armed s).ifr = s.ifr := by rw [settleEi_frame]
@[simp] theorem settleEi_divider (armed : Bool) : (settleEi armed s).divider = s.divider := by rw [settleEi_frame]
@[simp] theorem settleEi_tima (armed : Bool) : (settleEi armed s).tima = s.tima := by rw [settleEi_frame]
@[simp] theorem settleEi_tma (armed : Bool) : (settleEi armed s).tma = s.tma := by rw [settleEi_frame]
@[simp] theorem settleEi_tac (armed : Bool) : (settleEi armed s).tac = s.tac := by rw [settleEi_frame]
@[simp] theorem settleEi_timerAccum (armed : Bool) : (settleEi armed s).timerAccum = s.timerAccum := by rw [settleEi_frame]
@[simp] theorem settleEi_divAccum (armed : Bool) : (settleEi armed s).divAccum = s.divAccum := by rw [settleEi_frame]
@[simp] theorem settleEi_ramEnabled (armed : Bool) : (settleEi armed s).ramEnabled = s.ramEnabled := by rw [settleEi_frame]
@[simp] theorem settleEi_primary (armed : Bool) : (settleEi armed s).primary = s.primary := by rw [settleEi_frame]
@[simp] theorem settleEi_secondary (armed : Bool) : (settleEi armed s).secondary = s.secondary := by rw [settleEi_frame]
@[simp] theorem settleEi_mode (armed : Bool) : (settleEi armed s).mode = s.mode := by rw [settleEi_frame]
@[simp] theorem settleEi_mem (armed : Bool) : (settleEi armed s).mem = s.mem := by rw [settleEi_frame]
@[simp] theorem settleEi_cartRam (armed : Bool) : (settleEi armed s).cartRam = s.cartRam := by rw [settleEi_frame]
@[simp] theorem settleEi_env (armed : Bool) : (settleEi armed s).env = s.env := by rw [settleEi_frame]
@[simp] theorem settleEi_cycles (armed : Bool) : (settleEi armed s).cycles = s.cycles := by rw [settleEi_frame]
@[simp] theorem settleEi_draws (armed : Bool) : (settleEi armed s).draws = s.draws := by rw [settleEi_frame]

/-! ### timaTick -/

/-- All that `timaTick` can change. -/
theorem timaTick_frame : timaTick s = { s with tima := (timaTick s).tima, ifr := (timaTick s).ifr } := by
  unfold timaTick; split <;> rfl

@[simp] theorem timaTick_cfg : (timaTick s).cfg = s.cfg := by rw [timaTick_frame]
@[simp] theorem timaTick_cart : (timaTick s).cart = s.cart := by rw [timaTick_frame]
@[simp] theorem timaTick_a : (timaTick s).a = s.a := by rw [timaTick_frame]
@[simp] theorem timaTick_f : (timaTick s).f = s.f := by rw [timaTick_frame]
@[simp] theorem timaTick_b : (timaTick s).b = s.b := by rw [timaTick_frame]
@[simp] theorem timaTick_c : (timaTick s).c = s.c := by rw [timaTick_frame]
@[simp] theorem timaTick_d : (timaTick s).d = s.d := by rw [timaTick_frame]
@[simp] theorem timaTick_e : (timaTick s).e = s.e := by rw [timaTick_frame]
@[simp] theorem timaTick_h : (timaTick s).h = s.h := by rw [timaTick_frame]
@[simp] theorem timaTick_l : (timaTick s).l = s.l := by rw [timaTick_frame]
@[simp] theorem timaTick_sp : (timaTick s).sp = s.sp := by rw [timaTick_frame]
@[simp] theorem timaTick_pc : (timaTick s).pc = s.pc := by rw [timaTick_frame]
@[simp] theorem timaTick_ime : (timaTick s).ime = s.ime := by rw [timaTick_frame]
@[simp] theorem timaTick_halted : (timaTick s).halted = s.halted := by rw [timaTick_frame]
@[simp] theorem timaTick_eiPending : (timaTick s).eiPending = s.eiPending := by rw [timaTick_frame]
@[simp] theorem timaTick_haltBugPending : (timaTick s).haltBugPending = s.haltBugPending := by rw [timaTick_frame]
@[simp] theorem timaTick_ie : (timaTick s).ie = s.ie := by rw [timaTick_frame]
@[simp] theorem timaTick_divider : (timaTick s).divider = s.divider := by rw [timaTick_frame]
@[simp] theorem timaTick_tma : (timaTick s).tma = s.tma := by rw [timaTick_frame]
@[simp] theorem timaTick_tac : (timaTick s).tac = s.tac := by rw [timaTick_frame]
@[simp] theorem timaTick_timerAccum : (timaTick s).timerAccum = s.timerAccum := by rw [timaTick_frame]
@[simp] theorem timaTick_divAccum : (timaTick s).divAccum = s.divAccum := by rw [timaTick_frame]
@[simp] theorem timaTick_ramEnabled : (timaTick s).ramEnabled = s.ramEnabled := by rw [timaTick_frame]
@[simp] theorem timaTick_primary : (timaTick s).primary = s.primary := by rw [timaTick_frame]
@[simp] theorem timaTick_secondary : (timaTick s).secondary = s.secondary := by rw [timaTick_frame]
@[simp] theorem timaTick_mode : (timaTick s).mode = s.mode := by rw [timaTick_frame]
@[simp] theorem timaTick_mem : (timaTick s).mem = s.mem := by rw [timaTick_frame]
@[simp] theorem timaTick_cartRam : (timaTick s).cartRam = s.cartRam := by rw [timaTick_frame]
@[simp] theorem timaTick_env : (timaTick s).env = s.env := by rw [timaTick_frame]
@[simp] theorem timaTick_cycles : (timaTick s).cycles = s.cycles := by rw [timaTick_frame]
@[simp] theorem timaTick_draws : (timaTick s).draws = s.draws := by rw [timaTick_frame]

/-! ### advanceDivider -/

/-- All that `advanceDivider` can change. -/
theorem advanceDivider_frame (n : Nat) : advanceDivider n s = { s with divider := (advanceDivider n s).divider, divAccum := (advanceDivider n s).divAccum } := by
  unfold advanceDivider; split <;> rfl

@[simp] theorem advanceDivider_cfg (n : Nat) : (advanceDivider n s).cfg = s.cfg := by rw [advanceDivider_frame]
@[simp] theorem advanceDivider_cart (n : Nat) : (advanceDivider n s).cart = s.cart := by rw [advanceDivider_frame]
@[simp] theorem advanceDivider_a (n : Nat) : (advanceDivider n s).a = s.a := by rw [advanceDivider_frame]
@[simp] theorem advanceDivider_f (n : Nat) : (advanceDivider n s).f = s.f := by rw [advanceDivider_frame]
@[simp] theorem advanceDivider_b (n : Nat) : (advanceDivider n s).b = s.b := by rw [advanceDivider_frame]
@[simp] theorem advanceDivider_c (n : Nat) : (advanceDivider n s).c = s.c := by rw [advanceDivider_frame]
@[simp] theorem advanceDivider_d (n : Nat) : (advanceDivider n s).d = s.d := by rw [advanceDivider_frame]
@[simp] theorem advanceDivider_e (n : Nat) : (advanceDivider n s).e = s.e := by rw [advanceDivider_frame]
@[simp] theorem advanceDivider_h (n : Nat) : (advanceDivider n s).h = s.h := by rw [advanceDivider_frame]
@[simp] theorem advanceDivider_l (n : Nat) : (advanceDivider n s).l = s.l := by rw [advanceDivider_frame]
@[simp] theorem advanceDivider_sp (n : Nat) : (advanceDivider n s).sp = s.sp := by rw [advanceDivider_frame]
@[simp] theorem advanceDivider_pc (n : Nat) : (advanceDivider n s).pc = s.pc := by rw [advanceDivider_frame]
@[simp] theorem advanceDivider_ime (n : Nat) : (advanceDivider n s).ime = s.ime := by rw [advanceDivider_frame]
@[simp] theorem advanceDivider_halted (n : Nat) : (advanceDivider n s).halted = s.halted := by rw [advanceDivider_frame]
@[simp] theorem advanceDivider_eiPending (n : Nat) : (advanceDivider n s).eiPending = s.eiPending := by rw [advanceDivider_frame]
@[simp] theorem advanceDivider_haltBugPending (n : Nat) : (advanceDivider n s).haltBugPending = s.haltBugPending := by rw [advanceDivider_frame]
@[simp] theorem advanceDivider_ie (n : Nat) : (advanceDivider n s).ie = s.ie := by rw [advanceDivider_frame]
@[simp] theorem advanceDivider_ifr (n : Nat) : (advanceDivider n s).ifr = s.ifr := by rw [advanceDivider_frame]
@[simp] theorem advanceDivider_tima (n : Nat) : (advanceDivider n s).tima = s.tima := by rw [advanceDivider_frame]
@[simp] theorem advanceDivider_tma (n : Nat) : (advanceDivider n s).tma = s.tma := by rw [advanceDivider_frame]
@[simp] theorem advanceDivider_tac (n : Nat) : (advanceDivider n s).tac = s.tac := by rw [advanceDivider_frame]
@[simp] theorem advanceDivider_timerAccum (n : Nat) : (advanceDivider n s).timerAccum = s.timerAccum := by rw [advanceDivider_frame]
@[simp] theorem advanceDivider_ramEnabled (n : Nat) : (advanceDivider n s).ramEnabled = s.ramEnabled := by rw [advanceDivider_frame]
@[simp] theorem advanceDivider_primary (n : Nat) : (advanceDivider n s).primary = s.primary := by rw [advanceDivider_frame]
@[simp] theorem advanceDivider_secondary (n : Nat) : (advanceDivider n s).secondary = s.secondary := by rw [advanceDivider_frame]
@[simp] theorem advanceDivider_mode (n : Nat) : (advanceDivider n s).mode = s.mode := by rw [advanceDivider_frame]
@[simp] theorem advanceDivider_mem (n : Nat) : (advanceDivider n s).mem = s.mem := by rw [advanceDivider_frame]
@[simp] theorem advanceDivider_cartRam (n : Nat) : (advanceDivider n s).cartRam = s.cartRam := by rw [advanceDivider_frame]
@[simp] theorem advanceDivider_env (n : Nat) : (advanceDivider n s).env = s.env := by rw [advanceDivider_frame]
@[simp] theorem advanceDivider_cycles (n : Nat) : (advanceDivider n s).cycles = s.cycles := by rw [advanceDivider_frame]
@[simp] theorem advanceDivider_draws (n : Nat) : (advanceDivider n s).draws = s.draws := by rw [advanceDivider_frame]

/-! ### timaTicks -/

/-- All that `timaTicks` can change. -/
theorem timaTicks_frame (n : Nat) : timaTicks n s = { s with tima := (timaTicks n s).tima, ifr := (timaTicks n s).ifr } := by
  induction n generalizing s with
  | zero => rfl
  | succ n ih => rw [timaTicks, ih, timaTick_frame]

@[simp] theorem timaTicks_cfg (n : Nat) : (timaTicks n s).cfg = s.cfg := by rw [timaTicks_frame]
@[simp] theorem timaTicks_cart (n : Nat) : (timaTicks n s).cart = s.cart := by rw [timaTicks_frame]
@[simp] theorem timaTicks_a (n : Nat) : (timaTicks n s).a = s.a := by rw [timaTicks_frame]
@[simp] theorem timaTicks_f (n : Nat) : (timaTicks n s).f = s.f := by rw [timaTicks_frame]
@[simp] theorem timaTicks_b (n : Nat) : (timaTicks n s).b = s.b := by rw [timaTicks_frame]
@[simp] theorem timaTicks_c (n : Nat) : (timaTicks n s).c = s.c := by rw [timaTicks_frame]
@[simp] theorem timaTicks_d (n : Nat) : (timaTicks n s).d = s.d := by rw [timaTicks_frame]
@[simp] theorem timaTicks_e (n : Nat) : (timaTicks n s).e = s.e := by rw [timaTicks_frame]
@[simp] theorem timaTicks_h (n : Nat) : (timaTicks n s).h = s.h := by rw [timaTicks_frame]
@[simp] theorem timaTicks_l (n : Nat) : (timaTicks n s).l = s.l := by rw [timaTicks_frame]
@[simp] theorem timaTicks_sp (n : Nat) : (timaTicks n s).sp = s.sp := by rw [timaTicks_frame]
@[simp] theorem timaTicks_pc (n : Nat) : (timaTicks n s).pc = s.pc := by rw [timaTicks_frame]
@[simp] theorem timaTicks_ime (n : Nat) : (timaTicks n s).ime = s.ime := by rw [timaTicks_frame]
@[simp] theorem timaTicks_halted (n : Nat) : (timaTicks n s).halted = s.halted := by rw [timaTicks_frame]
@[simp] theorem timaTicks_eiPending (n : Nat) : (timaTicks n s).eiPending = s.eiPending := by rw [timaTicks_frame]
@[simp] theorem timaTicks_haltBugPending (n : Nat) : (timaTicks n s).haltBugPending = s.haltBugPending := by rw [timaTicks_frame]
@[simp] theorem timaTicks_ie (n : Nat) : (timaTicks n s).ie = s.ie := by rw [timaTicks_frame]
@[simp] theorem timaTicks_divider (n : Nat) : (timaTicks n s).divider = s.divider := by rw [timaTicks_frame]
@[simp] theorem timaTicks_tma (n : Nat) : (timaTicks n s).tma = s.tma := by rw [timaTicks_frame]
@[simp] theorem timaTicks_tac (n : Nat) : (timaTicks n s).tac = s.tac := by rw [timaTicks_frame]
@[simp] theorem timaTicks_timerAccum (n : Nat) : (timaTicks n s).timerAccum = s.timerAccum := by rw [timaTicks_frame]
@[simp] theorem timaTicks_divAccum (n : Nat) : (timaTicks n s).divAccum = s.divAccum := by rw [timaTicks_frame]
@[simp] theorem timaTicks_ramEnabled (n : Nat) : (timaTicks n s).ramEnabled = s.ramEnabled := by rw [timaTicks_frame]
@[simp] theorem timaTicks_primary (n : Nat) : (timaTicks n s).primary = s.primary := by rw [timaTicks_frame]
@[simp] theorem timaTicks_secondary (n : Nat) : (timaTicks n s).secondary = s.secondary := by rw [timaTicks_frame]
@[simp] theorem timaTicks_mode (n : Nat) : (timaTicks n s).mode = s.mode := by rw [timaTicks_frame]
@[simp] theorem timaTicks_mem (n : Nat) : (timaTicks n s).mem = s.mem := by rw [timaTicks_frame]
@[simp] theorem timaTicks_cartRam (n : Nat) : (timaTicks n s).cartRam = s.cartRam := by rw [timaTicks_frame]
@[simp] theorem timaTicks_env (n : Nat) : (timaTicks n s).env = s.env := by rw [timaTicks_frame]
@[simp] theorem timaTicks_cycles (n : Nat) : (timaTicks n s).cycles = s.cycles := by rw [timaTicks_frame]
@[simp] theorem timaTicks_draws (n : Nat) : (timaTicks n s).draws = s.draws := by rw [timaTicks_frame]

/-! ### advanceTimer -/

/-- All that `advanceTimer` can change. -/
theorem advanceTimer_frame (n : Nat) : advanceTimer n s = { s with tima := (advanceTimer n s).tima, ifr := (advanceTimer n s).ifr, timerAccum := (advanceTimer n s).timerAccum } := by
  unfold advanceTimer; split
  · rw [timaTicks_frame]
  · rfl

@[simp] theorem advanceTimer_cfg (n : Nat) : (advanceTimer n s).cfg = s.cfg := by rw [advanceTimer_frame]
@[simp] theorem advanceTimer_cart (n : Nat) : (advanceTimer n s).cart = s.cart := by rw [advanceTimer_frame]
@[simp] theorem advanceTimer_a (n : Nat) : (advanceTimer n s).a = s.a := by rw [advanceTimer_frame]
@[simp] theorem advanceTimer_f (n : Nat) : (advanceTimer n s).f = s.f := by rw [advanceTimer_frame]
@[simp] theorem advanceTimer_b (n : Nat) : (advanceTimer n s).b = s.b := by rw [advanceTimer_frame]
@[simp] theorem advanceTimer_c (n : Nat) : (advanceTimer n s).c = s.c := by rw [advanceTimer_frame]
@[simp] theorem advanceTimer_d (n : Nat) : (advanceTimer n s).d = s.d := by rw [advanceTimer_frame]
@[simp] theorem advanceTimer_e (n : Nat) : (advanceTimer n s).e = s.e := by rw [advanceTimer_frame]
@[simp] theorem advanceTimer_h (n : Nat) : (advanceTimer n s).h = s.h := by rw [advanceTimer_frame]
@[simp] theorem advanceTimer_l (n : Nat) : (advanceTimer n s).l = s.l := by rw [advanceTimer_frame]
@[simp] theorem advanceTimer_sp (n : Nat) : (advanceTimer n s).sp = s.sp := by rw [advanceTimer_frame]
@[simp] theorem advanceTimer_pc (n : Nat) : (advanceTimer n s).pc = s.pc := by rw [advanceTimer_frame]
@[simp] theorem advanceTimer_ime (n : Nat) : (advanceTimer n s).ime = s.ime := by rw [advanceTimer_frame]
@[simp] theorem advanceTimer_halted (n : Nat) : (advanceTimer n s).halted = s.halted := by rw [advanceTimer_frame]
@[simp] theorem advanceTimer_eiPending (n : Nat) : (advanceTimer n s).eiPending = s.eiPending := by rw [advanceTimer_frame]
@[simp] theorem advanceTimer_haltBugPending (n : Nat) : (advanceTimer n s).haltBugPending = s.haltBugPending := by rw [advanceTimer_frame]
@[simp] theorem advanceTimer_ie (n : Nat) : (advanceTimer n s).ie = s.ie := by rw [advanceTimer_frame]
@[simp] theorem advanceTimer_divider (n : Nat) : (advanceTimer n s).divider = s.divider := by rw [advanceTimer_frame]
@[simp] theorem advanceTimer_tma (n : Nat) : (advanceTimer n s).tma = s.tma := by rw [advanceTimer_frame]
@[simp] theorem advanceTimer_tac (n : Nat) : (advanceTimer n s).tac = s.tac := by rw [advanceTimer_frame]
@[simp] theorem advanceTimer_divAccum (n : Nat) : (advanceTimer n s).divAccum = s.divAccum := by rw [advanceTimer_frame]
@[simp] theorem advanceTimer_ramEnabled (n : Nat) : (advanceTimer n s).ramEnabled = s.ramEnabled := by rw [advanceTimer_frame]
@[simp] theorem advanceTimer_primary (n : Nat) : (advanceTimer n s).primary = s.primary := by rw [advanceTimer_frame]
@[simp] theorem advanceTimer_secondary (n : Nat) : (advanceTimer n s).secondary = s.secondary := by rw [advanceTimer_frame]
@[simp] theorem advanceTimer_mode (n : Nat) : (advanceTimer n s).mode = s.mode := by rw [advanceTimer_frame]
@[simp] theorem advanceTimer_mem (n : Nat) : (advanceTimer n s).mem = s.mem := by rw [advanceTimer_frame]
@[simp] theorem advanceTimer_cartRam (n : Nat) : (advanceTimer n s).cartRam = s.cartRam := by rw [advanceTimer_frame]
@[simp] theorem advanceTimer_env (n : Nat) : (advanceTimer n s).env = s.env := by rw [advanceTimer_frame]
@[simp] theorem advanceTimer_cycles (n : Nat) : (advanceTimer n s).cycles = s.cycles := by rw [advanceTimer_frame]
@[simp] theorem advanceTimer_draws (n : Nat) : (advanceTimer n s).draws = s.draws := by rw [advanceTimer_frame]

/-! ### advanceTimers -/

/-- All that `advanceTimers` can change. -/
theorem advanceTimers_frame (n : Nat) : advanceTimers n s = { s with tima := (advanceTimers n s).tima, ifr := (advanceTimers n s).ifr, timerAccum := (advanceTimers n s).timerAccum, divider := (advanceTimers n s).divider, divAccum := (advanceTimers n s).divAccum } := by
  unfold advanceTimers
  rw [advanceTimer_frame, advanceDivider_frame]

@[simp] theorem advanceTimers_cfg (n : Nat) : (advanceTimers n s).cfg = s.cfg := by rw [advanceTimers_frame]
@[simp] theorem advanceTimers_cart (n : Nat) : (advanceTimers n s).cart = s.cart := by rw [advanceTimers_frame]
@[simp] theorem advanceTimers_a (n : Nat) : (advanceTimers n s).a = s.a := by rw [advanceTimers_frame]
@[simp] theorem advanceTimers_f (n : Nat) : (advanceTimers n s).f = s.f := by rw [advanceTimers_frame]
@[simp] theorem advanceTimers_b (n : Nat) : (advanceTimers n s).b = s.b := by rw [advanceTimers_frame]
@[simp] theorem advanceTimers_c (n : Nat) : (advanceTimers n s).c = s.c := by rw [advanceTimers_frame]
@[simp] theorem advanceTimers_d (n : Nat) : (advanceTimers n s).d = s.d := by rw [advanceTimers_frame]
@[simp] theorem advanceTimers_e (n : Nat) : (advanceTimers n s).e = s.e := by rw [advanceTimers_frame]
@[simp] theorem advanceTimers_h (n : Nat) : (advanceTimers n s).h = s.h := by rw [advanceTimers_frame]
@[simp] theorem advanceTimers_l (n : Nat) : (advanceTimers n s).l = s.l := by rw [advanceTimers_frame]
@[simp] theorem advanceTimers_sp (n : Nat) : (advanceTimers n s).sp = s.sp := by rw [advanceTimers_frame]
@[simp] theorem advanceTimers_pc (n : Nat) : (advanceTimers n s).pc = s.pc := by rw [advanceTimers_frame]
@[simp] theorem advanceTimers_ime (n : Nat) : (advanceTimers n s).ime = s.ime := by rw [advanceTimers_frame]
@[simp] theorem advanceTimers_halted (n : Nat) : (advanceTimers n s).halted = s.halted := by rw [advanceTimers_frame]
@[simp] theorem advanceTimers_eiPending (n : Nat) : (advanceTimers n s).eiPending = s.eiPending := by rw [advanceTimers_frame]
@[simp] theorem advanceTimers_haltBugPending (n : Nat) : (advanceTimers n s).haltBugPending = s.haltBugPending := by rw [advanceTimers_frame]
@[simp] theorem advanceTimers_ie (n : Nat) : (advanceTimers n s).ie = s.ie := by rw [advanceTimers_frame]
@[simp] theorem advanceTimers_tma (n : Nat) : (advanceTimers n s).tma = s.tma := by rw [advanceTimers_frame]
@[simp] theorem advanceTimers_tac (n : Nat) : (advanceTimers n s).tac = s.tac := by rw [advanceTimers_frame]
@[simp] theorem advanceTimers_ramEnabled (n : Nat) : (advanceTimers n s).ramEnabled = s.ramEnabled := by rw [advanceTimers_frame]
@[simp] theorem advanceTimers_primary (n : Nat) : (advanceTimers n s).primary = s.primary := by rw [advanceTimers_frame]
@[simp] theorem advanceTimers_secondary (n : Nat) : (advanceTimers n s).secondary = s.secondary := by rw [advanceTimers_frame]
@[simp] theorem advanceTimers_mode (n : Nat) : (advanceTimers n s).mode = s.mode := by rw [advanceTimers_frame]
@[simp] theorem advanceTimers_mem (n : Nat) : (advanceTimers n s).mem = s.mem := by rw [advanceTimers_frame]
@[simp] theorem advanceTimers_cartRam (n : Nat) : (advanceTimers n s).cartRam = s.cartRam := by rw [advanceTimers_frame]
@[simp] theorem advanceTimers_env (n : Nat) : (advanceTimers n s).env = s.env := by rw [advanceTimers_frame]
@[simp] theorem advanceTimers_cycles (n : Nat) : (advanceTimers n s).cycles = s.cycles := by rw [advanceTimers_frame]
@[simp] theorem advanceTimers_draws (n : Nat) : (advanceTimers n s).draws = s.draws := by rw [advanceTimers_frame]

/-! ### envWrites -/

/-- All that `envWrites` can change. -/
theorem envWrites_frame (ws : List (Word × Byte)) : envWrites ws s = { s with mem := (envWrites ws s).mem } := by
  induction ws generalizing s with
  | nil => rfl
  | cons w ws ih =>
    rw [envWrites, ih]
    split <;> rfl

@[simp] theorem envWrites_cfg (ws : List (Word × Byte)) : (envWrites ws s).cfg = s.cfg := by rw [envWrites_frame]
@[simp] theorem envWrites_cart (ws : List (Word × Byte)) : (envWrites ws s).cart = s.cart := by rw [envWrites_frame]
@[simp] theorem envWrites_a (ws : List (Word × Byte)) : (envWrites ws s).a = s.a := by rw [envWrites_frame]
@[simp] theorem envWrites_f (ws : List (Word × Byte)) : (envWrites ws s).f = s.f := by rw [envWrites_frame]
@[simp] theorem envWrites_b (ws : List (Word × Byte)) : (envWrites ws s).b = s.b := by rw [envWrites_frame]
@[simp] theorem envWrites_c (ws : List (Word × Byte)) : (envWrites ws s).c = s.c := by rw [envWrites_frame]
@[simp] theorem envWrites_d (ws : List (Word × Byte)) : (envWrites ws s).d = s.d := by rw [envWrites_frame]
@[simp] theorem envWrites_e (ws : List (Word × Byte)) : (envWrites ws s).e = s.e := by rw [envWrites_frame]
@[simp] theorem envWrites_h (ws : List (Word × Byte)) : (envWrites ws s).h = s.h := by rw [envWrites_frame]
@[simp] theorem envWrites_l (ws : List (Word × Byte)) : (envWrites ws s).l = s.l := by rw [envWrites_frame]
@[simp] theorem envWrites_sp (ws : List (Word × Byte)) : (envWrites ws s).sp = s.sp := by rw [envWrites_frame]
@[simp] theorem envWrites_pc (ws : List (Word × Byte)) : (envWrites ws s).pc = s.pc := by rw [envWrites_frame]
@[simp] theorem envWrites_ime (ws : List (Word × Byte)) : (envWrites ws s).ime = s.ime := by rw [envWrites_frame]
@[simp] theorem envWrites_halted (ws : List (Word × Byte)) : (envWrites ws s).halted = s.halted := by rw [envWrites_frame]
@[simp] theorem envWrites_eiPending (ws : List (Word × Byte)) : (envWrites ws s).eiPending = s.eiPending := by rw [envWrites_frame]
@[simp] theorem envWrites_haltBugPending (ws : List (Word × Byte)) : (envWrites ws s).haltBugPending = s.haltBugPending := by rw [envWrites_frame]
@[simp] theorem envWrites_ie (ws : List (Word × Byte)) : (envWrites ws s).ie = s.ie := by rw [envWrites_frame]
@[simp] theorem envWrites_ifr (ws : List (Word × Byte)) : (envWrites ws s).ifr = s.ifr := by rw [envWrites_frame]
@[simp] theorem envWrites_divider (ws : List (Word × Byte)) : (envWrites ws s).divider = s.divider := by rw [envWrites_frame]
@[simp] theorem envWrites_tima (ws : List (Word × Byte)) : (envWrites ws s).tima = s.tima := by rw [envWrites_frame]
@[simp] theorem envWrites_tma (ws : List (Word × Byte)) : (envWrites ws s).tma = s.tma := by rw [envWrites_frame]
@[simp] theorem envWrites_tac (ws : List (Word × Byte)) : (envWrites ws s).tac = s.tac := by rw [envWrites_frame]
@[simp] theorem envWrites_timerAccum (ws : List (Word × Byte)) : (envWrites ws s).timerAccum = s.timerAccum := by rw [envWrites_frame]
@[simp] theorem envWrites_divAccum (ws : List (Word × Byte)) : (envWrites ws s).divAccum = s.divAccum := by rw [envWrites_frame]
@[simp] theorem envWrites_ramEnabled (ws : List (Word × Byte)) : (envWrites ws s).ramEnabled = s.ramEnabled := by rw [envWrites_frame]
@[simp] theorem envWrites_primary (ws : List (Word × Byte)) : (envWrites ws s).primary = s.primary := by rw [envWrites_frame]
@[simp] theorem envWrites_secondary (ws : List (Word × Byte)) : (envWrites ws s).secondary = s.secondary := by rw [envWrites_frame]
@[simp] theorem envWrites_mode (ws : List (Word × Byte)) : (envWrites ws s).mode = s.mode := by rw [envWrites_frame]
@[simp] theorem envWrites_cartRam (ws : List (Word × Byte)) : (envWrites ws s).cartRam = s.cartRam := by rw [envWrites_frame]
@[simp] theorem envWrites_env (ws : List (Word × Byte)) : (envWrites ws s).env = s.env := by rw [envWrites_frame]
@[simp] theorem envWrites_cycles (ws : List (Word × Byte)) : (envWrites ws s).cycles = s.cycles := by rw [envWrites_frame]
@[simp] theorem envWrites_draws (ws : List (Word × Byte)) : (envWrites ws s).draws = s.draws := by rw [envWrites_frame]

/-! ### envTurn -/

/-- All that `envTurn` can change. -/
theorem envTurn_frame : envTurn s = { s with env := (envTurn s).env, ifr := (envTurn s).ifr, mem := (envTurn s).mem } := by
  unfold envTurn; split
  · rfl
  · rw [envWrites_frame]

@[simp] theorem envTurn_cfg : (envTurn s).cfg = s.cfg := by rw [envTurn_frame]
@[simp] theorem envTurn_cart : (envTurn s).cart = s.cart := by rw [envTurn_frame]
@[simp] theorem envTurn_a : (envTurn s).a = s.a := by rw [envTurn_frame]
@[simp] theorem envTurn_f : (envTurn s).f = s.f := by rw [envTurn_frame]
@[simp] theorem envTurn_b : (envTurn s).b = s.b := by rw [envTurn_frame]
@[simp] theorem envTurn_c : (envTurn s).c = s.c := by rw [envTurn_frame]
@[simp] theorem envTurn_d : (envTurn s).d = s.d := by rw [envTurn_frame]
@[simp] theorem envTurn_e : (envTurn s).e = s.e := by rw [envTurn_frame]
@[simp] theorem envTurn_h : (envTurn s).h = s.h := by rw [envTurn_frame]
@[simp] theorem envTurn_l : (envTurn s).l = s.l := by rw [envTurn_frame]
@[simp] theorem envTurn_sp : (envTurn s).sp = s.sp := by rw [envTurn_frame]
@[simp] theorem envTurn_pc : (envTurn s).pc = s.pc := by rw [envTurn_frame]
@[simp] theorem envTurn_ime : (envTurn s).ime = s.ime := by rw [envTurn_frame]
@[simp] theorem envTurn_halted : (envTurn s).halted = s.halted := by rw [envTurn_frame]
@[simp] theorem envTurn_eiPending : (envTurn s).eiPending = s.eiPending := by rw [envTurn_frame]
@[simp] theorem envTurn_haltBugPending : (envTurn s).haltBugPending = s.haltBugPending := by rw [envTurn_frame]
@[simp] theorem envTurn_ie : (envTurn s).ie = s.ie := by rw [envTurn_frame]
@[simp] theorem envTurn_divider : (envTurn s).divider = s.divider := by rw [envTurn_frame]
@[simp] theorem envTurn_tima : (envTurn s).tima = s.tima := by rw [envTurn_frame]
@[simp] theorem envTurn_tma : (envTurn s).tma = s.tma := by rw [envTurn_frame]
@[simp] theorem envTurn_tac : (envTurn s).tac = s.tac := by rw [envTurn_frame]
@[simp] theorem envTurn_timerAccum : (envTurn s).timerAccum = s.timerAccum := by rw [envTurn_frame]
@[simp] theorem envTurn_divAccum : (envTurn s).divAccum = s.divAccum := by rw [envTurn_frame]
@[simp] theorem envTurn_ramEnabled : (envTurn s).ramEnabled = s.ramEnabled := by rw [envTurn_frame]
@[simp] theorem envTurn_primary : (envTurn s).primary = s.primary := by rw [envTurn_frame]
@[simp] theorem envTurn_secondary : (envTurn s).secondary = s.secondary := by rw [envTurn_frame]
@[simp] theorem envTurn_mode : (envTurn s).mode = s.mode := by rw [envTurn_frame]
@[simp] theorem envTurn_cartRam : (envTurn s).cartRam = s.cartRam := by rw [envTurn_frame]
@[simp] theorem envTurn_cycles : (envTurn s).cycles = s.cycles := by rw [envTurn_frame]
@[simp] theorem envTurn_draws : (envTurn s).draws = s.draws := by rw [envTurn_frame]

end Sys2Proof.Machine
end

