-- ==== Sys2Proof/Laws/Memory.lean ====
section
/-! SUPPORT. The laws of a storage array: a read after a write, and the canonical form. -/

namespace Sys2Proof.Machine.Memory

theorem wfFrom_mono {lo lo' : Nat} {m : Memory} (h : lo ≤ lo') : wfFrom lo' m = true → wfFrom lo m = true := by
  cases m with
  | nil => simp [wfFrom]
  | cons c m =>
    simp only [wfFrom, Bool.and_eq_true, decide_eq_true_eq]
    exact fun ⟨⟨h1, h2⟩, h3⟩ => ⟨⟨h.trans h1, h2⟩, h3⟩

/-- Below the first key of a canonical array nothing is listed. -/
theorem read_below {lo k : Nat} {m : Memory} (h : wfFrom lo m = true) (hk : k < lo) : read m k = unlisted := by
  induction m generalizing lo with
  | nil => rfl
  | cons c m ih =>
    obtain ⟨k', v⟩ := c
    simp only [wfFrom, Bool.and_eq_true, decide_eq_true_eq] at h
    rw [read, if_neg (by omega)]
    exact ih h.2 (by omega)

/-- A read after a write to the same key gives the value written. -/
theorem read_write_same {m : Memory} {lo : Nat} (k : Nat) (v : Byte) (h : wfFrom lo m = true) : read (write m k v) k = v := by
  induction m generalizing lo with
  | nil => by_cases hv : v = unlisted <;> simp [write, read, hv]
  | cons c m ih =>
    obtain ⟨k', w⟩ := c
    have h' := h
    simp only [wfFrom, Bool.and_eq_true, decide_eq_true_eq] at h
    by_cases hlt : k < k'
    · by_cases hv : v = unlisted
      · rw [write, if_pos hlt, if_pos hv, hv]
        exact read_below (lo := k') (by simpa [wfFrom] using ⟨h.1.2, h.2⟩) hlt
      · simp [write, hlt, hv, read]
    · by_cases heq : k = k'
      · by_cases hv : v = unlisted
        · rw [write, if_neg hlt, if_pos heq, if_pos hv, hv]
          exact read_below h.2 (by omega)
        · simp [write, heq, hv, read]
      · rw [write, if_neg hlt, if_neg heq, read, if_neg (Ne.symm heq)]
        exact ih h.2

/-- A write leaves every other key alone, whatever the array. -/
theorem read_write_other {m : Memory} {k k' : Nat} (v : Byte) (h : k' ≠ k) : read (write m k v) k' = read m k' := by
  induction m with
  | nil => by_cases hv : v = unlisted <;> simp [write, read, hv, Ne.symm h]
  | cons c m ih =>
    obtain ⟨k₀, w⟩ := c
    by_cases hlt : k < k₀
    · by_cases hv : v = unlisted <;> simp [write, hlt, hv, read, Ne.symm h]
    · by_cases heq : k = k₀
      · subst heq
        by_cases hv : v = unlisted <;> simp [write, hv, read, Ne.symm h]
      · simp [write, hlt, heq, read, ih]

/-- A write keeps the canonical form. -/
theorem wfFrom_write {m : Memory} {lo k : Nat} (v : Byte) (h : wfFrom lo m = true) (hk : lo ≤ k) :
    wfFrom lo (write m k v) = true := by
  induction m generalizing lo with
  | nil => by_cases hv : v = unlisted <;> simp [write, wfFrom, hv, hk]
  | cons c m ih =>
    obtain ⟨k', w⟩ := c
    simp only [wfFrom, Bool.and_eq_true, decide_eq_true_eq] at h
    obtain ⟨⟨h1, h2⟩, h3⟩ := h
    by_cases hlt : k < k'
    · have : k + 1 ≤ k' := hlt
      by_cases hv : v = unlisted <;> simp [write, wfFrom, hlt, hv, h1, h2, h3, hk, this]
    · by_cases heq : k = k'
      · by_cases hv : v = unlisted
        · simpa [write, hlt, heq, hv] using wfFrom_mono (by omega) h3
        · simpa [write, hlt, heq, hv, wfFrom, h1] using h3
      · have : k' + 1 ≤ k := by omega
        simpa [write, hlt, heq, wfFrom, h1, h2] using ih h3 this

theorem wf_write {m : Memory} (k : Nat) (v : Byte) (h : m.wf = true) : (m.write k v).wf = true :=
  wfFrom_write v h (Nat.zero_le k)

theorem read_write {m : Memory} (k : Nat) (v : Byte) (h : m.wf = true) : (m.write k v).read k = v := read_write_same k v h

/-- A write inside the array lists nothing outside it. -/
theorem keysIn_write {p : Nat → Bool} {m : Memory} {k : Nat} (v : Byte) (h : m.keysIn p = true) (hk : p k = true) :
    (m.write k v).keysIn p = true := by
  induction m with
  | nil => by_cases hv : v = unlisted <;> simp [write, keysIn, hv, hk]
  | cons c m ih =>
    obtain ⟨k', w⟩ := c
    simp only [keysIn, List.all_cons, Bool.and_eq_true] at h ih ⊢
    by_cases hlt : k < k'
    · by_cases hv : v = unlisted <;> simp [write, hlt, hv, h.1, hk, h.2]
    · by_cases heq : k = k'
      · by_cases hv : v = unlisted <;> simp [write, heq, hv, h.2, heq ▸ hk]
      · simpa [write, hlt, heq, h.1] using ih h.2

@[simp] theorem wf_nil : wf [] = true := rfl
@[simp] theorem keysIn_nil (p : Nat → Bool) : keysIn p [] = true := rfl
@[simp] theorem read_nil (k : Nat) : read [] k = unlisted := rfl

end Sys2Proof.Machine.Memory
end

