-- ==== Sys2Proof/Laws/Bus.lean ====
section
/-! SUPPORT. The Bus: what a read depends on, what a write changes for later reads, and that the arrays stay canonical. -/

namespace Sys2Proof.Machine

/-- The fields a byte read depends on, draws apart. -/
structure SameBus (s t : State) : Prop where
  cart : t.cart = s.cart
  ramEnabled : t.ramEnabled = s.ramEnabled
  primary : t.primary = s.primary
  secondary : t.secondary = s.secondary
  mode : t.mode = s.mode
  mem : t.mem = s.mem
  cartRam : t.cartRam = s.cartRam
  ie : t.ie = s.ie
  ifr : t.ifr = s.ifr
  divider : t.divider = s.divider
  tima : t.tima = s.tima
  tma : t.tma = s.tma
  tac : t.tac = s.tac

/-- The ROM offset depends on the mapper alone. -/
theorem romOffset_eq {s t : State} (h1 : t.cart = s.cart) (h2 : t.primary = s.primary) (h3 : t.secondary = s.secondary)
    (h4 : t.mode = s.mode) (a : Word) : romOffset a t = romOffset a s := by
  unfold romOffset lowerBank upperBank
  rw [h1, h2, h3, h4]

/-- The RAM offset depends on the mapper alone. -/
theorem cartRamOffset_eq {s t : State} (h1 : t.cart = s.cart) (h3 : t.secondary = s.secondary) (h4 : t.mode = s.mode) (a : Word) :
    cartRamOffset a t = cartRamOffset a s := by
  unfold cartRamOffset ramBank
  rw [h1, h3, h4]

/-- Whether the RAM window is open depends on the mapper alone. -/
theorem ramOpen_eq {s t : State} (h1 : t.cart = s.cart) (h2 : t.ramEnabled = s.ramEnabled) : ramOpen t = ramOpen s := by
  unfold ramOpen
  rw [h1, h2]

/-- Two states with the same arrays and memory-mapped registers hold the same byte everywhere. -/
theorem stored_eq {s t : State} (h : SameBus s t) (a : Word) : stored a t = stored a s := by
  obtain ⟨h1, h2, h3, h4, h5, h6, h7, h8, h9, h10, h11, h12, h13⟩ := h
  unfold stored mapperRead ioRead
  rw [romOffset_eq h1 h3 h4 h5, cartRamOffset_eq h1 h4 h5, ramOpen_eq h1 h2, h1, h6, h7, h8, h9, h10, h11, h12, h13]

theorem drawn_eq {s t : State} (h : t.cfg = s.cfg) (a : Word) : drawn a t = drawn a s := by rw [drawn, drawn, h]

theorem faulting_eq {s t : State} (h : t.cfg = s.cfg) (a : Word) : faulting a t = faulting a s := by rw [faulting, faulting, h]

theorem open_eq {s t : State} (h : t.cfg = s.cfg) (a : Word) : open_ a t = open_ a s := by rw [open_, open_, faulting_eq h]

/-- Under OpenBus every access can be made. -/
theorem open_of_openBus {s : State} (h : s.cfg.unmappedPolicy = .openBus) (a : Word) : open_ a s := by simp [open_, faulting, h]

/-- Outside 0xE000 to 0xFEFF every access can be made. -/
theorem open_of_mapped {s : State} {a : Word} (h : isUnmapped a = false) : open_ a s := by simp [open_, faulting, h]

theorem readByte_of_not_drawn {s : State} {a : Word} (h : drawn a s = false) : readByte a s = stored a s := by
  simp [readByte, h]

theorem afterRead_of_not_drawn {s : State} {a : Word} (h : drawn a s = false) : afterRead a s = s := by simp [afterRead, h]

theorem drawn_of_storage {s : State} (h : s.cfg.ioReadModel = .storage) (a : Word) : drawn a s = false := by simp [drawn, h]

theorem drawn_of_not_device {s : State} {a : Word} (h : isDeviceIo a = false) : drawn a s = false := by simp [drawn, h]

/-! ### The regions -/

theorem store_ram {a : Word} (v : Byte) (s : State)
    (h : (0x8000 ≤ a.toNat ∧ a.toNat ≤ 0x9FFF) ∨ (0xC000 ≤ a.toNat ∧ a.toNat ≤ 0xDFFF) ∨
      (0xFF80 ≤ a.toNat ∧ a.toNat ≤ 0xFFFE)) : store a v s = { s with mem := s.mem.write a.toNat v } := by
  unfold store; split_ifs <;> first | rfl | omega

theorem stored_ram {a : Word} (s : State)
    (h : (0x8000 ≤ a.toNat ∧ a.toNat ≤ 0x9FFF) ∨ (0xC000 ≤ a.toNat ∧ a.toNat ≤ 0xDFFF) ∨
      (0xFF80 ≤ a.toNat ∧ a.toNat ≤ 0xFFFE)) : stored a s = s.mem.read a.toNat := by
  unfold stored; split_ifs <;> first | rfl | omega

theorem isDeviceIo_iff (a : Word) : isDeviceIo a = true ↔
    0xFF00 ≤ a.toNat ∧ a.toNat ≤ 0xFF7F ∧ a ≠ 0xFF04 ∧ a ≠ 0xFF05 ∧ a ≠ 0xFF06 ∧ a ≠ 0xFF07 ∧ a ≠ 0xFF0F := by
  simp [isDeviceIo, and_assoc]

theorem store_device {a : Word} (v : Byte) (s : State) (h : isDeviceIo a = true) :
    store a v s = { s with mem := s.mem.write a.toNat v } := by
  obtain ⟨h1, h2, h3, h4, h5, h6, h7⟩ := (isDeviceIo_iff a).1 h
  unfold store ioWrite
  simp only [h3, h4, h5, h6, h7, if_false]
  split_ifs <;> first | rfl | omega

theorem stored_device {a : Word} (s : State) (h : isDeviceIo a = true) : stored a s = s.mem.read a.toNat := by
  obtain ⟨h1, h2, h3, h4, h5, h6, h7⟩ := (isDeviceIo_iff a).1 h
  unfold stored ioRead
  simp only [h3, h4, h5, h6, h7, if_false]
  split_ifs <;> first | rfl | omega

theorem isPlain_iff (a : Word) : isPlain a = true ↔
    ((0x8000 ≤ a.toNat ∧ a.toNat ≤ 0x9FFF) ∨ (0xC000 ≤ a.toNat ∧ a.toNat ≤ 0xDFFF) ∨
      (0xFF80 ≤ a.toNat ∧ a.toNat ≤ 0xFFFE)) ∨ isDeviceIo a = true := by
  simp only [isPlain, Bool.or_eq_true, Bool.and_eq_true, decide_eq_true_eq]
  tauto

theorem store_plain {a : Word} (v : Byte) (s : State) (h : isPlain a = true) :
    store a v s = { s with mem := s.mem.write a.toNat v } :=
  ((isPlain_iff a).1 h).elim (store_ram v s) (store_device v s)

theorem stored_plain {a : Word} (s : State) (h : isPlain a = true) : stored a s = s.mem.read a.toNat :=
  ((isPlain_iff a).1 h).elim (stored_ram s) (stored_device s)

/-- A plain address can always be accessed. -/
theorem open_of_plain {a : Word} (s : State) (h : isPlain a = true) : open_ a s := by
  apply open_of_mapped
  rw [isPlain_iff, isDeviceIo_iff] at h
  simp only [isUnmapped, Bool.and_eq_false_iff, decide_eq_false_iff_not]
  omega

theorem stored_store_plain {a : Word} (v : Byte) {s : State} (hm : s.mem.wf = true) (h : isPlain a = true) :
    stored a (store a v s) = v := by
  rw [stored_plain _ h, store_plain v s h]
  exact Memory.read_write _ _ hm

theorem stored_rom {a : Word} (s : State) (h : a.toNat ≤ 0x7FFF) : stored a s = s.cart.rom.read (romOffset a s) := by
  rw [stored, if_pos h, mapperRead, if_pos h]

theorem stored_window {a : Word} (s : State) (h1 : 0xA000 ≤ a.toNat) (h2 : a.toNat ≤ 0xBFFF) :
    stored a s = if ramOpen s then s.cartRam.read (cartRamOffset a s) else 0xFF := by
  rw [stored, if_neg (by omega), if_neg (by omega), if_pos h2, mapperRead, if_neg (by omega)]

theorem stored_unmapped {a : Word} (s : State) (h1 : 0xE000 ≤ a.toNat) (h2 : a.toNat ≤ 0xFEFF) : stored a s = 0xFF := by
  rw [stored, if_neg (by omega), if_neg (by omega), if_neg (by omega), if_neg (by omega), if_pos h2]

theorem store_rom {a : Word} (v : Byte) (s : State) (h : a.toNat ≤ 0x7FFF) :
    store a v s = if s.cart.kind = .mbc1 then mbc1Write a v s else s := by
  rw [store, if_pos h, mapperWrite, if_pos h]
  cases s.cart.kind <;> rfl

theorem store_window {a : Word} (v : Byte) (s : State) (h1 : 0xA000 ≤ a.toNat) (h2 : a.toNat ≤ 0xBFFF) :
    store a v s = if ramOpen s then { s with cartRam := s.cartRam.write (cartRamOffset a s) v } else s := by
  rw [store, if_neg (by omega), if_neg (by omega), if_pos h2, mapperWrite, if_neg (by omega)]

theorem store_unmapped {a : Word} (v : Byte) (s : State) (h1 : 0xE000 ≤ a.toNat) (h2 : a.toNat ≤ 0xFEFF) : store a v s = s := by
  rw [store, if_neg (by omega), if_neg (by omega), if_neg (by omega), if_neg (by omega), if_pos h2]

@[simp] theorem stored_DIV (s : State) : stored 0xFF04 s = hiByte s.divider := rfl
@[simp] theorem stored_TIMA (s : State) : stored 0xFF05 s = s.tima := rfl
@[simp] theorem stored_TMA (s : State) : stored 0xFF06 s = s.tma := rfl
@[simp] theorem stored_TAC (s : State) : stored 0xFF07 s = s.tac := rfl
@[simp] theorem stored_IF (s : State) : stored 0xFF0F s = s.ifr := rfl
@[simp] theorem stored_IE (s : State) : stored 0xFFFF s = s.ie := rfl
@[simp] theorem store_DIV (v : Byte) (s : State) : store 0xFF04 v s = { s with divider := 0 } := rfl
@[simp] theorem store_TIMA (v : Byte) (s : State) : store 0xFF05 v s = { s with tima := v } := rfl
@[simp] theorem store_TMA (v : Byte) (s : State) : store 0xFF06 v s = { s with tma := v } := rfl
@[simp] theorem store_TAC (v : Byte) (s : State) : store 0xFF07 v s = { s with tac := v } := rfl
@[simp] theorem store_IF (v : Byte) (s : State) : store 0xFF0F v s = { s with ifr := v } := rfl
@[simp] theorem store_IE (v : Byte) (s : State) : store 0xFFFF v s = { s with ie := v } := rfl

/-- Every address lies in exactly one region (R61). -/
theorem regions (a : Word) : a.toNat ≤ 0x7FFF ∨ (0xA000 ≤ a.toNat ∧ a.toNat ≤ 0xBFFF) ∨ (0xE000 ≤ a.toNat ∧ a.toNat ≤ 0xFEFF) ∨
    isPlain a = true ∨ a = 0xFF04 ∨ a = 0xFF05 ∨ a = 0xFF06 ∨ a = 0xFF07 ∨ a = 0xFF0F ∨ a = 0xFFFF := by
  rw [isPlain_iff, isDeviceIo_iff]
  have hlast : a.toNat = 0xFFFF → a = 0xFFFF := fun h => BitVec.eq_of_toNat_eq h
  have := a.isLt
  by_cases h : a.toNat = 0xFFFF
  · simp [hlast h]
  · by_cases h1 : a = 0xFF04 <;> by_cases h2 : a = 0xFF05 <;> by_cases h3 : a = 0xFF06 <;> by_cases h4 : a = 0xFF07 <;>
      by_cases h5 : a = 0xFF0F <;> simp only [h1, h2, h3, h4, h5, true_or, or_true, ne_eq, not_true, not_false_iff, false_or,
        and_true, and_false, or_false] <;> omega

/-- The memory-mapped registers, in the order of their addresses. -/
def mappedRegs (s : State) : BitVec 16 × Byte × Byte × Byte × Byte × Byte :=
  (s.divider, s.tima, s.tma, s.tac, s.ifr, s.ie)

/-- What the register page shows depends on the memory-mapped registers and the byte's own cell. -/
theorem ioRead_eq {s t : State} {b : Word} (hregs : mappedRegs t = mappedRegs s)
    (hmem : t.mem.read b.toNat = s.mem.read b.toNat) : ioRead b t = ioRead b s ∧ t.ie = s.ie := by
  simp only [mappedRegs, Prod.mk.injEq] at hregs
  obtain ⟨hdiv, htima, htma, htac, hif, hie⟩ := hregs
  rw [ioRead, ioRead, hdiv, htima, htma, htac, hif, hmem]
  exact ⟨rfl, hie⟩

/-- With the mapper and the memory-mapped registers unchanged, a byte reads as before when its own array cell does. -/
theorem stored_eq_of_cell {s t : State} (b : Word) (h1 : t.cart = s.cart) (h2 : t.ramEnabled = s.ramEnabled)
    (h3 : t.primary = s.primary) (h4 : t.secondary = s.secondary) (h5 : t.mode = s.mode)
    (hregs : mappedRegs t = mappedRegs s) (hmem : t.mem.read b.toNat = s.mem.read b.toNat)
    (hram : 0xA000 ≤ b.toNat → b.toNat ≤ 0xBFFF → t.cartRam.read (cartRamOffset b s) = s.cartRam.read (cartRamOffset b s)) :
    stored b t = stored b s := by
  obtain ⟨hio, hie⟩ := ioRead_eq hregs hmem
  by_cases hw : 0xA000 ≤ b.toNat ∧ b.toNat ≤ 0xBFFF
  · rw [stored_window _ hw.1 hw.2, stored_window _ hw.1 hw.2, ramOpen_eq h1 h2, cartRamOffset_eq h1 h4 h5, hram hw.1 hw.2]
  by_cases hr : b.toNat ≤ 0x7FFF
  · rw [stored_rom _ hr, stored_rom _ hr, romOffset_eq h1 h3 h4 h5, h1]
  · rw [stored, stored, if_neg hr, if_neg hr, hmem, hio, hie]
    split_ifs <;> first | rfl | omega

/-- A memory-mapped register shows at its own address alone: a byte elsewhere is read without it. -/
theorem stored_other_register {b : Word} (v : Byte) (s : State) :
    (b ≠ 0xFF04 → stored b { s with divider := 0 } = stored b s) ∧ (b ≠ 0xFF05 → stored b { s with tima := v } = stored b s) ∧
    (b ≠ 0xFF06 → stored b { s with tma := v } = stored b s) ∧ (b ≠ 0xFF07 → stored b { s with tac := v } = stored b s) ∧
    (b ≠ 0xFF0F → stored b { s with ifr := v } = stored b s) ∧ (b ≠ 0xFFFF → stored b { s with ie := v } = stored b s) := by
  have hlast : b ≠ 0xFFFF → b.toNat ≤ 0xFFFE := fun h => by
    have : b.toNat ≠ 0xFFFF := fun e => h (BitVec.eq_of_toNat_eq e)
    have := b.isLt
    omega
  refine ⟨?_, ?_, ?_, ?_, ?_, ?_⟩ <;> intro h <;> unfold stored ioRead
  case refine_6 => simp only [hlast h, if_true]; rfl
  all_goals simp only [h, if_false]; rfl

/-- A write from 0x8000 up changes what no other address reads as. -/
theorem stored_store_other {a b : Word} (v : Byte) (s : State) (ha : 0x8000 ≤ a.toNat) (hb : b ≠ a) :
    stored b (store a v s) = stored b s := by
  have hne : b.toNat ≠ a.toNat := fun h => hb (BitVec.eq_of_toNat_eq h)
  obtain ⟨hDIV, hTIMA, hTMA, hTAC, hIF, hIE⟩ := stored_other_register (b := b) v s
  obtain h | ⟨h1, h2⟩ | ⟨h1, h2⟩ | h | h | h | h | h | h | h := regions a
  · omega
  · rw [store_window v s h1 h2]
    split
    · exact stored_eq_of_cell b rfl rfl rfl rfl rfl rfl rfl
        fun _ _ => Memory.read_write_other v (by unfold cartRamOffset; omega)
    · rfl
  · rw [store_unmapped v s h1 h2]
  · rw [store_plain v s h]
    exact stored_eq_of_cell b rfl rfl rfl rfl rfl rfl (Memory.read_write_other v hne) fun _ _ => rfl
  · subst h; exact hDIV hb
  · subst h; exact hTIMA hb
  · subst h; exact hTMA hb
  · subst h; exact hTAC hb
  · subst h; exact hIF hb
  · subst h; exact hIE hb

/-- A write below 0x8000 changes what is read in the two bank windows only. -/
theorem stored_store_rom {a b : Word} (v : Byte) (s : State) (ha : a.toNat ≤ 0x7FFF) (hb : 0x8000 ≤ b.toNat)
    (hw : ¬ (0xA000 ≤ b.toNat ∧ b.toNat ≤ 0xBFFF)) : stored b (store a v s) = stored b s := by
  rw [store_rom v s ha]
  split
  · rw [mbc1Write_frame]
    obtain g | ⟨g1, g2⟩ | ⟨g1, g2⟩ | g | g | g | g | g | g | g := regions b
    · omega
    · omega
    · rw [stored_unmapped _ g1 g2, stored_unmapped _ g1 g2]
    · rw [stored_plain _ g, stored_plain _ g]
    all_goals subst g; simp only [stored_DIV, stored_TIMA, stored_TMA, stored_TAC, stored_IF, stored_IE]
  · rfl

/-! ### The arrays stay canonical -/

theorem plainKey_of_plain {a : Word} (h : isPlain a = true) : plainKey a.toNat = true := by
  simp [plainKey, h, a.isLt]

/-- The offset of a byte in an open RAM window is inside the RAM (R88). -/
theorem cartRamOffset_lt {a : Word} {s : State} (h : ramOpen s = true) (h1 : 0xA000 ≤ a.toNat) (h2 : a.toNat ≤ 0xBFFF) :
    cartRamOffset a s < s.cart.ramSize.bytes := by
  simp only [ramOpen, Bool.and_eq_true, decide_eq_true_eq] at h
  obtain ⟨⟨_, hb⟩, _⟩ := h
  have hmask : s.secondary.toNat &&& s.cart.ramMask ≤ s.cart.ramMask := Nat.and_le_right
  have hsec : s.secondary.toNat &&& s.cart.ramMask ≤ s.secondary.toNat := Nat.and_le_left
  have := s.secondary.isLt
  unfold cartRamOffset ramBank
  generalize hg : s.secondary.toNat &&& s.cart.ramMask = g at *
  cases hr : s.cart.ramSize <;> simp_all [RamSize.bytes, Cartridge.ramMask, RamSize.bankBits] <;> split <;> omega

end Sys2Proof.Machine
end

