-- ==== Sys2Proof/Laws/Ops.lean ====
section
/-! SUPPORT. For each shared operation, once, everything it does: exactly when it answers a next state, and which. -/

namespace Sys2Proof.Machine

/-- `next` is injective. -/
@[simp] theorem next_inj {s t : State} : ((.next s : Out) = .next t) ↔ s = t := by
  constructor
  · intro h; injection h
  · intro h; rw [h]

@[simp] theorem fault_ne_next {r : Fault} {t : State} : ((.fault r : Out) = .next t) ↔ False := ⟨(nomatch ·), False.elim⟩

@[simp] theorem andThen_next {o : Out} {k : State → Out} {t : State} : andThen o k = .next t ↔ ∃ u, o = .next u ∧ k u = .next t := by
  cases o <;> simp [andThen]

@[simp] theorem andThen_of_next (s : State) (k : State → Out) : andThen (.next s) k = k s := rfl

/-! ### One byte -/

@[simp] theorem read8_next {a : Word} {s t : State} {k : Byte → State → Out} :
    read8 a s k = .next t ↔ open_ a s ∧ k (readByte a s) (afterRead a s) = .next t := by
  unfold read8 open_
  cases faulting a s <;> simp

@[simp] theorem write8_next {a : Word} {v : Byte} {s t : State} {k : State → Out} :
    write8 a v s k = .next t ↔ open_ a s ∧ k (store a v s) = .next t := by
  unfold write8 open_
  cases faulting a s <;> simp

theorem read8_open {a : Word} {s : State} (k : Byte → State → Out) (h : open_ a s) :
    read8 a s k = k (readByte a s) (afterRead a s) := by rw [read8, show faulting a s = false from h]; rfl

theorem write8_open {a : Word} {s : State} (v : Byte) (k : State → Out) (h : open_ a s) :
    write8 a v s k = k (store a v s) := by rw [write8, show faulting a s = false from h]; rfl

@[simp] theorem open_afterRead (a b : Word) (s : State) : open_ a (afterRead b s) ↔ open_ a s := by
  rw [open_eq (afterRead_cfg s b)]
@[simp] theorem open_store (a b : Word) (v : Byte) (s : State) : open_ a (store b v s) ↔ open_ a s := by
  rw [open_eq (store_cfg s b v)]
@[simp] theorem open_setSP (a v : Word) (s : State) : open_ a (setSP v s) ↔ open_ a s := Iff.rfl
@[simp] theorem open_setPC (a v : Word) (s : State) : open_ a (setPC v s) ↔ open_ a s := Iff.rfl
@[simp] theorem open_charge (a : Word) (x : Slot) (n : Nat) (s : State) : open_ a (charge x n s) ↔ open_ a s := Iff.rfl
@[simp] theorem open_chargeTaken (a : Word) (x : Slot) (n : Nat) (s : State) : open_ a (chargeTaken x n s) ↔ open_ a s := Iff.rfl

/-! ### Reads and writes commute with what they do not read -/

/-- A read gives the same byte in a state that differs in no field the read depends on. -/
theorem readByte_eq {s t : State} (h : SameBus s t) (hc : t.cfg = s.cfg) (hd : t.draws = s.draws) (a : Word) :
    readByte a t = readByte a s := by
  unfold readByte
  rw [drawn_eq hc, hd, stored_eq h]

@[simp] theorem readByte_setSP (a v : Word) (s : State) : readByte a (setSP v s) = readByte a s := rfl
@[simp] theorem readByte_charge (a : Word) (x : Slot) (n : Nat) (s : State) : readByte a (charge x n s) = readByte a s := rfl

theorem afterRead_setSP (a v : Word) (s : State) : afterRead a (setSP v s) = setSP v (afterRead a s) := by
  have h : drawn a (setSP v s) = drawn a s := rfl
  unfold afterRead
  rw [h]
  cases drawn a s <;> rfl

theorem afterRead_charge (a : Word) (x : Slot) (n : Nat) (s : State) : afterRead a (charge x n s) = charge x n (afterRead a s) := by
  have h : drawn a (charge x n s) = drawn a s := rfl
  unfold afterRead
  rw [h]
  cases drawn a s <;> rfl

/-! ### Operands -/

@[simp] theorem opndOpen_reg {r : R8} {s : State} (h : r ≠ .mHL) : opndOpen r s := fun h' => absurd h' h

@[simp] theorem opndOpen_mHL {s : State} : opndOpen .mHL s ↔ open_ (regHL s) s := ⟨fun h => h rfl, fun h _ => h⟩

@[simp] theorem readR8_next {r : R8} {s t : State} {k : Byte → State → Out} :
    readR8 r s k = .next t ↔ opndOpen r s ∧ k (opnd r s) (afterOpnd r s) = .next t := by
  cases r <;> simp [readR8, opnd, afterOpnd]

@[simp] theorem writeR8_next {r : R8} {v : Byte} {s t : State} {k : State → Out} :
    writeR8 r v s k = .next t ↔ opndOpen r s ∧ k (put r v s) = .next t := by
  cases r <;> simp [writeR8, put]

theorem regHL_eq {s t : State} (h1 : t.h = s.h) (h2 : t.l = s.l) : regHL t = regHL s := by rw [regHL, regHL, h1, h2]

@[simp] theorem opndOpen_afterOpnd (r r' : R8) (s : State) : opndOpen r (afterOpnd r' s) ↔ opndOpen r s := by
  unfold opndOpen
  rw [open_eq (s := s) (by simp), regHL_eq (s := s) (by simp) (by simp)]

/-! ### Stack -/

theorem write16_next {a v : Word} {s t : State} {k : State → Out} :
    write16 a v s k = .next t ↔
      (open_ a s ∧ open_ (a + 1) s) ∧ k (store (a + 1) (hiByte v) (store a (loByte v) s)) = .next t := by
  simp [write16, and_assoc]

@[simp] theorem push16_next {v : Word} {s t : State} {k : State → Out} :
    push16 v s k = .next t ↔ pushOpen s ∧ k (pushed v s) = .next t := by
  simp only [push16, write16_next, pushOpen, open_setSP]
  rfl

@[simp] theorem pop16_next {s t : State} {k : Word → State → Out} :
    pop16 s k = .next t ↔ popOpen s ∧ k (popped s) (afterPop s) = .next t := by
  simp only [pop16, read8_next, popOpen, open_setSP, open_afterRead, setSP_sp, afterRead_sp, readByte_setSP, afterRead_setSP,
    and_assoc]
  rw [show s.sp + 1 + 1 = s.sp + 2 by rw [BitVec.add_assoc]; rfl]
  rfl

theorem pushOpen_eq {s t : State} (hc : t.cfg = s.cfg) (hs : t.sp = s.sp) : pushOpen t = pushOpen s := by
  unfold pushOpen
  rw [open_eq hc, open_eq hc, hs]

theorem popOpen_eq {s t : State} (hc : t.cfg = s.cfg) (hs : t.sp = s.sp) : popOpen t = popOpen s := by
  unfold popOpen
  rw [open_eq hc, open_eq hc, hs]

/-! ### Loads, stores, stack (40_load.md) -/

section
variable {s t : State}

theorem copyR8_next {d r : R8} : copyR8 d r s = .next t ↔
    opndOpen r s ∧ opndOpen d (afterOpnd r s) ∧ put d (opnd r s) (afterOpnd r s) = t := by
  simp [copyR8]

theorem loadImm8_next {d : R8} {n : Byte} : loadImm8 d n s = .next t ↔ opndOpen d s ∧ put d n s = t := by simp [loadImm8]

theorem loadA_next {a : Word} : loadA a s = .next t ↔ open_ a s ∧ { afterRead a s with a := readByte a s } = t := by simp [loadA]

theorem storeA_next {a : Word} : storeA a s = .next t ↔ open_ a s ∧ store a s.a s = t := by simp [storeA]

theorem storeAThenHL_next {d : Word} : storeAThenHL d s = .next t ↔
    open_ (regHL s) s ∧ setHL (regHL s + d) (store (regHL s) s.a s) = t := by
  simp only [storeAThenHL, write8_next, next_inj]
  rw [regHL_eq (s := s) (t := store (regHL s) s.a s) (by simp) (by simp)]

theorem loadAThenHL_next {d : Word} : loadAThenHL d s = .next t ↔
    open_ (regHL s) s ∧ setHL (regHL s + d) { afterRead (regHL s) s with a := readByte (regHL s) s } = t := by
  simp only [loadAThenHL, read8_next, next_inj]
  rw [regHL_eq (s := s) (t := afterRead (regHL s) s) (by simp) (by simp)]

theorem loadImm16_next {r : R16} {nn : Word} : loadImm16 r nn s = .next t ↔ writeR16 r nn s = t := by simp [loadImm16]

theorem storeSP_next {nn : Word} : storeSP nn s = .next t ↔
    (open_ nn s ∧ open_ (nn + 1) s) ∧ store (nn + 1) (hiByte s.sp) (store nn (loByte s.sp) s) = t := by
  simp [storeSP, write16_next]

theorem pushPair_next {r : R16Stk} : pushPair r s = .next t ↔ pushOpen s ∧ pushed (readStk r s) s = t := by simp [pushPair]

theorem popPair_next {r : R16Stk} : popPair r s = .next t ↔ popOpen s ∧ writeStk r (popped s) (afterPop s) = t := by simp [popPair]

/-! ### Arithmetic, rotates, bits (41_alu8.md to 43_rotate_shift_bit.md) -/

theorem aluR8_next {op : AluOp} {r : R8} : aluR8 op r s = .next t ↔ opndOpen r s ∧ aluApply op (opnd r s) (afterOpnd r s) = t := by
  simp [aluR8]

theorem aluImm_next {op : AluOp} {n : Byte} : aluImm op n s = .next t ↔ aluApply op n s = t := by simp [aluImm]

theorem writeBack_next {r : R8} {o : AluOut} : writeBack r o s = .next t ↔
    opndOpen r s ∧ setF o.z o.n o.h o.c (put r o.res s) = t := by simp [writeBack]

theorem incR8_next {r : R8} : incR8 r s = .next t ↔
    opndOpen r s ∧ (let o := inc8 (opnd r s) (flagC s); setF o.z o.n o.h o.c (put r o.res (afterOpnd r s)) = t) := by
  simp only [incR8, readR8_next, writeBack_next, opndOpen_afterOpnd, flagC, afterOpnd_f]
  tauto

theorem decR8_next {r : R8} : decR8 r s = .next t ↔
    opndOpen r s ∧ (let o := dec8 (opnd r s) (flagC s); setF o.z o.n o.h o.c (put r o.res (afterOpnd r s)) = t) := by
  simp only [decR8, readR8_next, writeBack_next, opndOpen_afterOpnd, flagC, afterOpnd_f]
  tauto

theorem cbShift_next {op : ShiftOp} {r : R8} : cbShift op r s = .next t ↔
    opndOpen r s ∧ (let o := cbShiftOut op (opnd r s) (flagC s); setF o.z o.n o.h o.c (put r o.res (afterOpnd r s)) = t) := by
  simp only [cbShift, readR8_next, writeBack_next, opndOpen_afterOpnd, flagC, afterOpnd_f]
  tauto

theorem cbBit_next {b : Idx8} {r : R8} : cbBit b r s = .next t ↔
    opndOpen r s ∧ setF (!(opnd r s).getLsbD b.toNat) false true (flagC s) (afterOpnd r s) = t := by
  simp only [cbBit, readR8_next, next_inj, flagC, afterOpnd_f]

theorem cbRes_next {b : Idx8} {r : R8} : cbRes b r s = .next t ↔
    opndOpen r s ∧ put r (opnd r s &&& ~~~(BitVec.twoPow 8 b.toNat)) (afterOpnd r s) = t := by
  simp only [cbRes, readR8_next, writeR8_next, next_inj, opndOpen_afterOpnd]
  tauto

theorem cbSet_next {b : Idx8} {r : R8} : cbSet b r s = .next t ↔
    opndOpen r s ∧ put r (opnd r s ||| BitVec.twoPow 8 b.toNat) (afterOpnd r s) = t := by
  simp only [cbSet, readR8_next, writeR8_next, next_inj, opndOpen_afterOpnd]
  tauto

/-! ### Control transfer (44_control.md) -/

theorem call_next {nn : Word} : call nn s = .next t ↔ pushOpen s ∧ setPC nn (pushed s.pc s) = t := by simp [call]

theorem ret_next : ret s = .next t ↔ popOpen s ∧ setPC (popped s) (afterPop s) = t := by simp [ret]

theorem returnFromInterrupt_next : returnFromInterrupt s = .next t ↔
    popOpen s ∧ { afterPop s with pc := popped s, ime := true } = t := by simp [returnFromInterrupt]

theorem branchIf_next {cc : Cond} {x : Slot} {b c : Nat} {k : State → Out} : branchIf cc x b c s k = .next t ↔
    (cond cc s = true ∧ k (chargeTaken x c s) = .next t) ∨ (cond cc s = false ∧ charge x b s = t) := by
  unfold branchIf
  cases cond cc s <;> simp

/-- Taking an interrupt (60_exceptions.md R372). -/
theorem takeInterrupt_next {i : IrqSource} : takeInterrupt i s = .next t ↔ pushOpen s ∧
    setPC (vector i)
      (pushed s.pc { s with ifr := s.ifr &&& ~~~(BitVec.twoPow 8 (irqBit i)), ime := false, cycles := 5 }) = t := by
  simp only [takeInterrupt, push16_next, next_inj]
  exact Iff.rfl

/-- STOP answers a next state under every STOP_MODE but Stuck. -/
theorem stop_next {n : Byte} : stop n s = .next t ↔
    (s.cfg.stopMode = .halt ∧ { s with halted := true } = t) ∨ (s.cfg.stopMode = .noOp ∧ s = t) := by
  unfold stop
  cases s.cfg.stopMode <;> simp

/-- DI clears IME, and under EI_DELAY = 1 a waiting EI. -/
theorem disableInterrupts_next : disableInterrupts s = .next t ↔
    { s with ime := false, eiPending := decide (s.cfg.eiDelay = .none) && s.eiPending } = t := by
  cases h : s.cfg.eiDelay <;> simp [disableInterrupts, h]

/-- EI sets IME at once, or arms the enable when IME is 0. -/
theorem enableInterrupts_next : enableInterrupts s = .next t ↔
    (s.cfg.eiDelay = .none ∧ { s with ime := true } = t) ∨
    (s.cfg.eiDelay = .oneInstruction ∧ { s with eiPending := s.eiPending || !s.ime } = t) := by
  cases h : s.cfg.eiDelay <;> simp [enableInterrupts, h]

end

end Sys2Proof.Machine
end

