-- ==== Sys2Proof/Laws/Cost.lean ====
section
/-! SUPPORT. The Step's count is apart from all else: charging first or last makes no difference. -/

namespace Sys2Proof.Machine

/-- The state with another count. -/
def recount (c : Nat) (s : State) : State := { s with cycles := c }

theorem charge_eq (x : Slot) (n : Nat) (s : State) : charge x n s = recount (baseCost x n s.cfg) s := rfl
theorem chargeTaken_eq (x : Slot) (n : Nat) (s : State) : chargeTaken x n s = recount (takenCost x n s.cfg) s := rfl

variable (c : Nat) (s : State)

theorem sameBus_recount : SameBus s (recount c s) := ⟨rfl, rfl, rfl, rfl, rfl, rfl, rfl, rfl, rfl, rfl, rfl, rfl, rfl⟩

@[simp] theorem regHL_recount : regHL (recount c s) = regHL s := rfl
@[simp] theorem cfg_recount : (recount c s).cfg = s.cfg := rfl
@[simp] theorem stored_recount (a : Word) : stored a (recount c s) = stored a s := stored_eq (sameBus_recount c s) a
@[simp] theorem readByte_recount (a : Word) : readByte a (recount c s) = readByte a s :=
  readByte_eq (sameBus_recount c s) rfl rfl a
@[simp] theorem open_recount (a : Word) : open_ a (recount c s) ↔ open_ a s := Iff.rfl
@[simp] theorem opndOpen_recount (r : R8) : opndOpen r (recount c s) ↔ opndOpen r s := Iff.rfl
@[simp] theorem pushOpen_recount : pushOpen (recount c s) ↔ pushOpen s := Iff.rfl
@[simp] theorem popOpen_recount : popOpen (recount c s) ↔ popOpen s := Iff.rfl

@[simp] theorem opnd_recount (r : R8) : opnd r (recount c s) = opnd r s := by
  cases r <;> rfl

@[simp] theorem afterRead_recount (a : Word) : afterRead a (recount c s) = recount c (afterRead a s) := by
  have h : drawn a (recount c s) = drawn a s := rfl
  unfold afterRead
  rw [h]
  cases drawn a s <;> rfl

@[simp] theorem afterOpnd_recount (r : R8) : afterOpnd r (recount c s) = recount c (afterOpnd r s) := by
  cases r <;> first | rfl | exact afterRead_recount c s _

@[simp] theorem store_recount (a : Word) (v : Byte) : store a v (recount c s) = recount c (store a v s) := by
  obtain h | ⟨h1, h2⟩ | ⟨h1, h2⟩ | h | h | h | h | h | h | h := regions a
  · rw [store_rom v _ h, store_rom v _ h]
    show (if s.cart.kind = .mbc1 then _ else _) = _
    by_cases hk : s.cart.kind = .mbc1
    · rw [if_pos hk, if_pos hk]
      unfold mbc1Write
      split_ifs <;> rfl
    · rw [if_neg hk, if_neg hk]
  · rw [store_window v _ h1 h2, store_window v _ h1 h2, ramOpen_eq (s := s) (t := recount c s) rfl rfl,
      cartRamOffset_eq (s := s) (t := recount c s) rfl rfl rfl]
    cases ramOpen s <;> rfl
  · rw [store_unmapped v _ h1 h2, store_unmapped v _ h1 h2]
  · rw [store_plain v _ h, store_plain v _ h]; rfl
  all_goals subst h; rfl

@[simp] theorem put_recount (r : R8) (v : Byte) : put r v (recount c s) = recount c (put r v s) := by
  cases r <;> first | rfl | exact store_recount c s _ v

@[simp] theorem pushed_recount (v : Word) : pushed v (recount c s) = recount c (pushed v s) := by
  show store _ _ (store _ _ (recount c { s with sp := s.sp - 2 })) = _
  rw [store_recount, store_recount]
  rfl

@[simp] theorem popped_recount : popped (recount c s) = popped s := by
  show wordOf (readByte (s.sp + 1) (afterRead s.sp (recount c s))) (readByte s.sp (recount c s)) = _
  rw [afterRead_recount, readByte_recount, readByte_recount]
  rfl

@[simp] theorem afterPop_recount : afterPop (recount c s) = recount c (afterPop s) := by
  show { afterRead (s.sp + 1) (afterRead s.sp (recount c s)) with sp := s.sp + 2 } = _
  rw [afterRead_recount, afterRead_recount]
  rfl

@[simp] theorem aluApply_recount (op : AluOp) (v : Byte) : aluApply op v (recount c s) = recount c (aluApply op v s) := rfl
@[simp] theorem rotateA_recount (op : ShiftOp) : rotateA op (recount c s) = recount c (rotateA op s) := rfl
@[simp] theorem setF_recount (z n h k : Bool) : setF z n h k (recount c s) = recount c (setF z n h k s) := rfl
@[simp] theorem setHL_recount (v : Word) : setHL v (recount c s) = recount c (setHL v s) := rfl
@[simp] theorem setSP_recount (v : Word) : setSP v (recount c s) = recount c (setSP v s) := rfl
@[simp] theorem setPC_recount (v : Word) : setPC v (recount c s) = recount c (setPC v s) := rfl
@[simp] theorem writeR16_recount (r : R16) (v : Word) : writeR16 r v (recount c s) = recount c (writeR16 r v s) := by
  cases r <;> rfl
@[simp] theorem writeStk_recount (r : R16Stk) (v : Word) : writeStk r v (recount c s) = recount c (writeStk r v s) := by
  cases r <;> rfl
@[simp] theorem readR16_recount (r : R16) : readR16 r (recount c s) = readR16 r s := by cases r <;> rfl
@[simp] theorem readStk_recount (r : R16Stk) : readStk r (recount c s) = readStk r s := by cases r <;> rfl
@[simp] theorem flagC_recount : flagC (recount c s) = flagC s := rfl
@[simp] theorem cond_recount (cc : Cond) : cond cc (recount c s) = cond cc s := by cases cc <;> rfl

end Sys2Proof.Machine
end

