-- ==== Sys2Proof/Laws/Decode.lean ====
section
/-! SUPPORT. What the decoder reads encodes to the bytes it read. -/

namespace Sys2Proof

open Laws.EncodedLength (announced)

/-- A fact about bytes, checked at each of the 256. -/
theorem byte_cases {P : Byte → Prop} (h : ∀ n : Fin 256, P (BitVec.ofFin n)) (b : Byte) : P b := h b.toFin

theorem encode_decodeCb (op : Byte) : encode (decodeCb op) = [0xCB, op] := by
  revert op
  apply byte_cases
  intro n
  fin_cases n <;> rfl

theorem decodeBytes_cb (b1 b2 : Byte) : decodeBytes 0xCB b1 b2 = decodeCb b1 := rfl

/-- Every first byte, every following bytes: the instruction read encodes to the bytes its length takes in. -/
theorem encode_decodeBytes (op b1 b2 : Byte) : encode (decodeBytes op b1 b2) = [op, b1, b2].take (announced op) := by
  by_cases h : op = 0xCB
  · subst h
    rw [decodeBytes_cb, encode_decodeCb]
    rfl
  · revert op
    apply byte_cases
    intro n
    fin_cases n <;> intro h <;>
      first
        | rfl
        | exact absurd rfl h
        | exact congrArg₂ (fun x y => [_, x, y]) (loByte_wordOf b2 b1) (hiByte_wordOf b2 b1)

theorem encode_length_decodeBytes (op b1 b2 : Byte) : (encode (decodeBytes op b1 b2)).length = announced op := by
  rw [encode_decodeBytes, List.length_take]
  unfold announced
  cases lengthOf op <;> rfl

/-- No bytes decode to the bare prefix. -/
theorem wellFormed_decodeBytes (op b1 b2 : Byte) : (decodeBytes op b1 b2).wellFormed = true := by
  have h := encode_decodeBytes op b1 b2
  cases hi : decodeBytes op b1 b2
  case prefix_CB =>
    rw [hi] at h
    have hop : op = 0xCB := by
      unfold announced at h
      cases hl : lengthOf op <;> rw [hl] at h <;> simp [encode] at h
      exact h.symm
    rw [hop] at h
    cases h
  all_goals rfl

end Sys2Proof
end

