-- ==== Sys2Proof/Laws/Flags.lean ====
section
/-! SUPPORT. The four flags of a flag byte, and its low nibble. -/

namespace Sys2Proof.Machine

variable (z n h c : Bool)

@[simp] theorem flagByte_z : (flagByte z n h c).getLsbD 7 = z := by cases z <;> cases n <;> cases h <;> cases c <;> rfl
@[simp] theorem flagByte_n : (flagByte z n h c).getLsbD 6 = n := by cases z <;> cases n <;> cases h <;> cases c <;> rfl
@[simp] theorem flagByte_h : (flagByte z n h c).getLsbD 5 = h := by cases z <;> cases n <;> cases h <;> cases c <;> rfl
@[simp] theorem flagByte_c : (flagByte z n h c).getLsbD 4 = c := by cases z <;> cases n <;> cases h <;> cases c <;> rfl

@[simp] theorem flagByte_z' : (flagByte z n h c)[7] = z := flagByte_z z n h c
@[simp] theorem flagByte_n' : (flagByte z n h c)[6] = n := flagByte_n z n h c
@[simp] theorem flagByte_h' : (flagByte z n h c)[5] = h := flagByte_h z n h c
@[simp] theorem flagByte_c' : (flagByte z n h c)[4] = c := flagByte_c z n h c

/-- The low nibble is always 0 (10_state.md R22). -/
@[simp] theorem flagByte_low : flagByte z n h c &&& 15#8 = 0#8 := by cases z <;> cases n <;> cases h <;> cases c <;> rfl

/-- A byte masked as a write to AF masks it has a low nibble of 0. -/
@[simp] theorem masked_low (v : Byte) : v &&& 240#8 &&& 15#8 = 0#8 := by
  rw [BitVec.and_assoc]
  exact BitVec.and_zero

end Sys2Proof.Machine
end

