-- ==== Sys2Proof/Laws/Rows.lean ====
section
/-! SUPPORT. exec of the rows of one format as their shared operation, whatever the codes in the fields: one lemma per format,
so that a proof about a format cites one equation instead of splitting every row. -/

namespace Sys2Proof.Machine

theorem exec_ldRow (d r : R8) (h : ¬ (d = .mHL ∧ r = .mHL)) (s : State) :
    exec (ldRow d r) s = copyR8 d r (charge (slotOf (ldRow d r)) (if d = .mHL ∨ r = .mHL then 2 else 1) s) := by
  cases d <;> cases r <;> first | rfl | exact absurd ⟨rfl, rfl⟩ h

theorem exec_ldImmRow (d : R8) (n : Byte) (s : State) :
    exec (ldImmRow d n) s = loadImm8 d n (charge (slotOf (ldImmRow d n)) (byOperand d 2 3) s) := by
  cases d <;> rfl

theorem exec_aluRow (op : AluOp) (r : R8) (s : State) :
    exec (aluRow op r) s = aluR8 op r (charge (slotOf (aluRow op r)) (byOperand r 1 2) s) := by
  cases op <;> cases r <;> rfl

theorem exec_aluImmRow (op : AluOp) (n : Byte) (s : State) :
    exec (aluImmRow op n) s = aluImm op n (charge (slotOf (aluImmRow op n)) 2 s) := by
  cases op <;> rfl

theorem exec_incRow (r : R8) (s : State) :
    exec (incRow r) s = incR8 r (charge (slotOf (incRow r)) (byOperand r 1 3) s) := by
  cases r <;> rfl

theorem exec_decRow (r : R8) (s : State) :
    exec (decRow r) s = decR8 r (charge (slotOf (decRow r)) (byOperand r 1 3) s) := by
  cases r <;> rfl

theorem exec_shiftRow (op : ShiftOp) (r : R8) (s : State) :
    exec (shiftRow op r) s = cbShift op r (charge (slotOf (shiftRow op r)) (byOperand r 2 4) s) := by
  cases op <;> cases r <;> rfl

theorem exec_bitRow (b : Idx8) (r : R8) (s : State) :
    exec (bitRow b r) s = cbBit b r (charge (slotOf (bitRow b r)) (byOperand r 2 3) s) := by
  cases b <;> cases r <;> rfl

theorem exec_resRow (b : Idx8) (r : R8) (s : State) :
    exec (resRow b r) s = cbRes b r (charge (slotOf (resRow b r)) (byOperand r 2 4) s) := by
  cases b <;> cases r <;> rfl

theorem exec_setRow (b : Idx8) (r : R8) (s : State) :
    exec (setRow b r) s = cbSet b r (charge (slotOf (setRow b r)) (byOperand r 2 4) s) := by
  cases b <;> cases r <;> rfl

theorem exec_addHLRow (r : R16) (s : State) : exec (addHLRow r) s = addHL r (charge (slotOf (addHLRow r)) 2 s) := by
  cases r <;> rfl

theorem exec_inc16Row (r : R16) (s : State) : exec (inc16Row r) s = incR16 r (charge (slotOf (inc16Row r)) 2 s) := by
  cases r <;> rfl

theorem exec_dec16Row (r : R16) (s : State) : exec (dec16Row r) s = decR16 r (charge (slotOf (dec16Row r)) 2 s) := by
  cases r <;> rfl

theorem exec_pushRow (r : R16Stk) (s : State) : exec (pushRow r) s = pushPair r (charge (slotOf (pushRow r)) 4 s) := by
  cases r <;> rfl

theorem exec_popRow (r : R16Stk) (s : State) : exec (popRow r) s = popPair r (charge (slotOf (popRow r)) 3 s) := by
  cases r <;> rfl

theorem exec_rstRow (x : Idx8) (s : State) : exec (rstRow x) s = restart x (charge (slotOf (rstRow x)) 4 s) := by
  cases x <;> rfl

theorem exec_jpRow (cc : Cond) (nn : Word) (s : State) :
    exec (jpRow cc nn) s = branchIf cc (slotOf (jpRow cc nn)) 3 4 s (jump nn) := by
  cases cc <;> rfl

theorem exec_jrRow (cc : Cond) (e : Byte) (s : State) :
    exec (jrRow cc e) s = branchIf cc (slotOf (jrRow cc e)) 2 3 s (jumpRel e) := by
  cases cc <;> rfl

theorem exec_callRow (cc : Cond) (nn : Word) (s : State) :
    exec (callRow cc nn) s = branchIf cc (slotOf (callRow cc nn)) 3 6 s (call nn) := by
  cases cc <;> rfl

theorem exec_retRow (cc : Cond) (s : State) : exec (retRow cc) s = branchIf cc (slotOf (retRow cc)) 2 5 s ret := by
  cases cc <;> rfl

end Sys2Proof.Machine
end

