-- ==== Sys2Proof/Laws/Shape.lean ====
section
/-! SUPPORT. The 512 instructions as 46 shapes: `exec_eq_run` turns a case split over the instructions into one over the shapes. -/

namespace Sys2Proof.Machine

/-- Where an accumulator load or store goes. -/
inductive AForm
  | BC
  | DE
  | abs (nn : Word)
  | high (n : Byte)
  | highC
deriving DecidableEq, Repr

/-- The address of such a form. -/
def AForm.addr : AForm → State → Word
  | .BC, s => regBC s
  | .DE, s => regDE s
  | .abs nn, _ => nn
  | .high n, _ => highPage n
  | .highC, s => highPage s.c

/-- What an instruction does, less its slot and its costs. -/
inductive Shape
  | copy (d r : R8)
  | loadImm8 (d : R8) (n : Byte)
  | loadA (form : AForm)
  | storeA (form : AForm)
  | storeAHL (delta : Word)
  | loadAHL (delta : Word)
  | loadImm16 (r : R16) (nn : Word)
  | storeSP (nn : Word)
  | loadSPHL
  | push (r : R16Stk)
  | pop (r : R16Stk)
  | alu (op : AluOp) (r : R8)
  | aluImm (op : AluOp) (n : Byte)
  | inc (r : R8)
  | dec (r : R8)
  | daa
  | cpl
  | scf
  | ccf
  | addHL (r : R16)
  | incPair (r : R16)
  | decPair (r : R16)
  | addSP (e : Byte)
  | loadHLSP (e : Byte)
  | rotA (op : ShiftOp)
  | cbShift (op : ShiftOp) (r : R8)
  | cbBit (b : Idx8) (r : R8)
  | cbRes (b : Idx8) (r : R8)
  | cbSet (b : Idx8) (r : R8)
  | jp (nn : Word)
  | jpHL
  | jr (e : Byte)
  | jpIf (cc : Cond) (nn : Word)
  | jrIf (cc : Cond) (e : Byte)
  | call (nn : Word)
  | callIf (cc : Cond) (nn : Word)
  | ret
  | retIf (cc : Cond)
  | reti
  | rst (t : Idx8)
  | noOp
  | stop (n : Byte)
  | halt
  | di
  | ei
  | prefixCb
deriving DecidableEq, Repr

/-- Run a shape from its slot and its two costs. -/
def Shape.run (x : Slot) (base taken : Nat) (s : State) : Shape → Out
  | .copy d r => copyR8 d r (charge x base s)
  | .loadImm8 d n => Machine.loadImm8 d n (charge x base s)
  | .loadA form => Machine.loadA (form.addr s) (charge x base s)
  | .storeA form => Machine.storeA (form.addr s) (charge x base s)
  | .storeAHL delta => storeAThenHL delta (charge x base s)
  | .loadAHL delta => loadAThenHL delta (charge x base s)
  | .loadImm16 r nn => Machine.loadImm16 r nn (charge x base s)
  | .storeSP nn => Machine.storeSP nn (charge x base s)
  | .loadSPHL => .next (setSP (regHL s) (charge x base s))
  | .push r => pushPair r (charge x base s)
  | .pop r => popPair r (charge x base s)
  | .alu op r => aluR8 op r (charge x base s)
  | .aluImm op n => Machine.aluImm op n (charge x base s)
  | .inc r => incR8 r (charge x base s)
  | .dec r => decR8 r (charge x base s)
  | .daa => Machine.daa (charge x base s)
  | .cpl => Machine.cpl (charge x base s)
  | .scf => Machine.scf (charge x base s)
  | .ccf => Machine.ccf (charge x base s)
  | .addHL r => Machine.addHL r (charge x base s)
  | .incPair r => incR16 r (charge x base s)
  | .decPair r => decR16 r (charge x base s)
  | .addSP e => Machine.addSP e (charge x base s)
  | .loadHLSP e => Machine.loadHLSP e (charge x base s)
  | .rotA op => .next (rotateA op (charge x base s))
  | .cbShift op r => Machine.cbShift op r (charge x base s)
  | .cbBit b r => Machine.cbBit b r (charge x base s)
  | .cbRes b r => Machine.cbRes b r (charge x base s)
  | .cbSet b r => Machine.cbSet b r (charge x base s)
  | .jp nn => jump nn (charge x base s)
  | .jpHL => jump (regHL s) (charge x base s)
  | .jr e => jumpRel e (charge x base s)
  | .jpIf cc nn => branchIf cc x base taken s (jump nn)
  | .jrIf cc e => branchIf cc x base taken s (jumpRel e)
  | .call nn => Machine.call nn (charge x base s)
  | .callIf cc nn => branchIf cc x base taken s (Machine.call nn)
  | .ret => Machine.ret (charge x base s)
  | .retIf cc => branchIf cc x base taken s Machine.ret
  | .reti => returnFromInterrupt (charge x base s)
  | .rst t => restart t (charge x base s)
  | .noOp => Machine.noOp (charge x base s)
  | .stop n => Machine.stop n (charge x base s)
  | .halt => Machine.halt (charge x base s)
  | .di => disableInterrupts (charge x base s)
  | .ei => enableInterrupts (charge x base s)
  | .prefixCb => cbPrefix s

/-- The addresses a shape stores to. -/
def Shape.targets (s : State) : Shape → List Word
  | .copy .mHL _ => [regHL s]
  | .loadImm8 .mHL _ => [regHL s]
  | .storeA form => [form.addr s]
  | .storeAHL _ => [regHL s]
  | .storeSP nn => [nn, nn + 1]
  | .inc .mHL => [regHL s]
  | .dec .mHL => [regHL s]
  | .cbShift _ .mHL => [regHL s]
  | .cbRes _ .mHL => [regHL s]
  | .cbSet _ .mHL => [regHL s]
  | .push _ => [s.sp - 2, s.sp - 2 + 1]
  | .call _ => [s.sp - 2, s.sp - 2 + 1]
  | .rst _ => [s.sp - 2, s.sp - 2 + 1]
  | .callIf cc _ => if cond cc s then [s.sp - 2, s.sp - 2 + 1] else []
  | _ => []

/-- The flag column of a shape. -/
def Shape.column : Shape → FlagColumn
  | .pop .AF => .col_ZNHC
  | .alu .add _ => .col_Z0HC
  | .alu .adc _ => .col_Z0HC
  | .alu .sub _ => .col_Z1HC
  | .alu .sbc _ => .col_Z1HC
  | .alu .cp _ => .col_Z1HC
  | .alu .and _ => .col_Z010
  | .alu _ _ => .col_Z000
  | .aluImm .add _ => .col_Z0HC
  | .aluImm .adc _ => .col_Z0HC
  | .aluImm .sub _ => .col_Z1HC
  | .aluImm .sbc _ => .col_Z1HC
  | .aluImm .cp _ => .col_Z1HC
  | .aluImm .and _ => .col_Z010
  | .aluImm _ _ => .col_Z000
  | .inc _ => .col_Z0Hk
  | .dec _ => .col_Z1Hk
  | .daa => .col_Zk0C
  | .cpl => .col_k11k
  | .scf => .col_k001
  | .ccf => .col_k00C
  | .addHL _ => .col_k0HC
  | .addSP _ => .col_00HC
  | .loadHLSP _ => .col_00HC
  | .rotA _ => .col_000C
  | .cbShift .swap _ => .col_Z000
  | .cbShift _ _ => .col_Z00C
  | .cbBit _ _ => .col_Z01k
  | _ => .kept

/-- The shape of each instruction, its base cost and its taken cost (the base cost again where there is none). -/
def rowOf : Instr → Shape × Nat × Nat
  | .nop => (.noOp, 1, 1)
  | .ld_BC_u16 nn => (.loadImm16 .BC nn, 3, 3)
  | .ld_mBC_A => (.storeA .BC, 2, 2)
  | .inc_BC => (.incPair .BC, 2, 2)
  | .inc_B => (.inc .B, 1, 1)
  | .dec_B => (.dec .B, 1, 1)
  | .ld_B_u8 n => (.loadImm8 .B n, 2, 2)
  | .rlca => (.rotA .rlc, 1, 1)
  | .ld_mU16_SP nn => (.storeSP nn, 5, 5)
  | .add_HL_BC => (.addHL .BC, 2, 2)
  | .ld_A_mBC => (.loadA .BC, 2, 2)
  | .dec_BC => (.decPair .BC, 2, 2)
  | .inc_C => (.inc .C, 1, 1)
  | .dec_C => (.dec .C, 1, 1)
  | .ld_C_u8 n => (.loadImm8 .C n, 2, 2)
  | .rrca => (.rotA .rrc, 1, 1)
  | .stop n => (.stop n, 1, 1)
  | .ld_DE_u16 nn => (.loadImm16 .DE nn, 3, 3)
  | .ld_mDE_A => (.storeA .DE, 2, 2)
  | .inc_DE => (.incPair .DE, 2, 2)
  | .inc_D => (.inc .D, 1, 1)
  | .dec_D => (.dec .D, 1, 1)
  | .ld_D_u8 n => (.loadImm8 .D n, 2, 2)
  | .rla => (.rotA .rl, 1, 1)
  | .jr_i8 e => (.jr e, 3, 3)
  | .add_HL_DE => (.addHL .DE, 2, 2)
  | .ld_A_mDE => (.loadA .DE, 2, 2)
  | .dec_DE => (.decPair .DE, 2, 2)
  | .inc_E => (.inc .E, 1, 1)
  | .dec_E => (.dec .E, 1, 1)
  | .ld_E_u8 n => (.loadImm8 .E n, 2, 2)
  | .rra => (.rotA .rr, 1, 1)
  | .jr_NZ_i8 e => (.jrIf .NZ e, 2, 3)
  | .ld_HL_u16 nn => (.loadImm16 .HL nn, 3, 3)
  | .ld_mHLinc_A => (.storeAHL 1, 2, 2)
  | .inc_HL => (.incPair .HL, 2, 2)
  | .inc_H => (.inc .H, 1, 1)
  | .dec_H => (.dec .H, 1, 1)
  | .ld_H_u8 n => (.loadImm8 .H n, 2, 2)
  | .daa => (.daa, 1, 1)
  | .jr_Z_i8 e => (.jrIf .Z e, 2, 3)
  | .add_HL_HL => (.addHL .HL, 2, 2)
  | .ld_A_mHLinc => (.loadAHL 1, 2, 2)
  | .dec_HL => (.decPair .HL, 2, 2)
  | .inc_L => (.inc .L, 1, 1)
  | .dec_L => (.dec .L, 1, 1)
  | .ld_L_u8 n => (.loadImm8 .L n, 2, 2)
  | .cpl => (.cpl, 1, 1)
  | .jr_NC_i8 e => (.jrIf .NC e, 2, 3)
  | .ld_SP_u16 nn => (.loadImm16 .SP nn, 3, 3)
  | .ld_mHLdec_A => (.storeAHL (-1), 2, 2)
  | .inc_SP => (.incPair .SP, 2, 2)
  | .inc_mHL => (.inc .mHL, 3, 3)
  | .dec_mHL => (.dec .mHL, 3, 3)
  | .ld_mHL_u8 n => (.loadImm8 .mHL n, 3, 3)
  | .scf => (.scf, 1, 1)
  | .jr_C_i8 e => (.jrIf .C e, 2, 3)
  | .add_HL_SP => (.addHL .SP, 2, 2)
  | .ld_A_mHLdec => (.loadAHL (-1), 2, 2)
  | .dec_SP => (.decPair .SP, 2, 2)
  | .inc_A => (.inc .A, 1, 1)
  | .dec_A => (.dec .A, 1, 1)
  | .ld_A_u8 n => (.loadImm8 .A n, 2, 2)
  | .ccf => (.ccf, 1, 1)
  | .ld_B_B => (.copy .B .B, 1, 1)
  | .ld_B_C => (.copy .B .C, 1, 1)
  | .ld_B_D => (.copy .B .D, 1, 1)
  | .ld_B_E => (.copy .B .E, 1, 1)
  | .ld_B_H => (.copy .B .H, 1, 1)
  | .ld_B_L => (.copy .B .L, 1, 1)
  | .ld_B_mHL => (.copy .B .mHL, 2, 2)
  | .ld_B_A => (.copy .B .A, 1, 1)
  | .ld_C_B => (.copy .C .B, 1, 1)
  | .ld_C_C => (.copy .C .C, 1, 1)
  | .ld_C_D => (.copy .C .D, 1, 1)
  | .ld_C_E => (.copy .C .E, 1, 1)
  | .ld_C_H => (.copy .C .H, 1, 1)
  | .ld_C_L => (.copy .C .L, 1, 1)
  | .ld_C_mHL => (.copy .C .mHL, 2, 2)
  | .ld_C_A => (.copy .C .A, 1, 1)
  | .ld_D_B => (.copy .D .B, 1, 1)
  | .ld_D_C => (.copy .D .C, 1, 1)
  | .ld_D_D => (.copy .D .D, 1, 1)
  | .ld_D_E => (.copy .D .E, 1, 1)
  | .ld_D_H => (.copy .D .H, 1, 1)
  | .ld_D_L => (.copy .D .L, 1, 1)
  | .ld_D_mHL => (.copy .D .mHL, 2, 2)
  | .ld_D_A => (.copy .D .A, 1, 1)
  | .ld_E_B => (.copy .E .B, 1, 1)
  | .ld_E_C => (.copy .E .C, 1, 1)
  | .ld_E_D => (.copy .E .D, 1, 1)
  | .ld_E_E => (.copy .E .E, 1, 1)
  | .ld_E_H => (.copy .E .H, 1, 1)
  | .ld_E_L => (.copy .E .L, 1, 1)
  | .ld_E_mHL => (.copy .E .mHL, 2, 2)
  | .ld_E_A => (.copy .E .A, 1, 1)
  | .ld_H_B => (.copy .H .B, 1, 1)
  | .ld_H_C => (.copy .H .C, 1, 1)
  | .ld_H_D => (.copy .H .D, 1, 1)
  | .ld_H_E => (.copy .H .E, 1, 1)
  | .ld_H_H => (.copy .H .H, 1, 1)
  | .ld_H_L => (.copy .H .L, 1, 1)
  | .ld_H_mHL => (.copy .H .mHL, 2, 2)
  | .ld_H_A => (.copy .H .A, 1, 1)
  | .ld_L_B => (.copy .L .B, 1, 1)
  | .ld_L_C => (.copy .L .C, 1, 1)
  | .ld_L_D => (.copy .L .D, 1, 1)
  | .ld_L_E => (.copy .L .E, 1, 1)
  | .ld_L_H => (.copy .L .H, 1, 1)
  | .ld_L_L => (.copy .L .L, 1, 1)
  | .ld_L_mHL => (.copy .L .mHL, 2, 2)
  | .ld_L_A => (.copy .L .A, 1, 1)
  | .ld_mHL_B => (.copy .mHL .B, 2, 2)
  | .ld_mHL_C => (.copy .mHL .C, 2, 2)
  | .ld_mHL_D => (.copy .mHL .D, 2, 2)
  | .ld_mHL_E => (.copy .mHL .E, 2, 2)
  | .ld_mHL_H => (.copy .mHL .H, 2, 2)
  | .ld_mHL_L => (.copy .mHL .L, 2, 2)
  | .halt => (.halt, 1, 1)
  | .ld_mHL_A => (.copy .mHL .A, 2, 2)
  | .ld_A_B => (.copy .A .B, 1, 1)
  | .ld_A_C => (.copy .A .C, 1, 1)
  | .ld_A_D => (.copy .A .D, 1, 1)
  | .ld_A_E => (.copy .A .E, 1, 1)
  | .ld_A_H => (.copy .A .H, 1, 1)
  | .ld_A_L => (.copy .A .L, 1, 1)
  | .ld_A_mHL => (.copy .A .mHL, 2, 2)
  | .ld_A_A => (.copy .A .A, 1, 1)
  | .add_A_B => (.alu .add .B, 1, 1)
  | .add_A_C => (.alu .add .C, 1, 1)
  | .add_A_D => (.alu .add .D, 1, 1)
  | .add_A_E => (.alu .add .E, 1, 1)
  | .add_A_H => (.alu .add .H, 1, 1)
  | .add_A_L => (.alu .add .L, 1, 1)
  | .add_A_mHL => (.alu .add .mHL, 2, 2)
  | .add_A_A => (.alu .add .A, 1, 1)
  | .adc_A_B => (.alu .adc .B, 1, 1)
  | .adc_A_C => (.alu .adc .C, 1, 1)
  | .adc_A_D => (.alu .adc .D, 1, 1)
  | .adc_A_E => (.alu .adc .E, 1, 1)
  | .adc_A_H => (.alu .adc .H, 1, 1)
  | .adc_A_L => (.alu .adc .L, 1, 1)
  | .adc_A_mHL => (.alu .adc .mHL, 2, 2)
  | .adc_A_A => (.alu .adc .A, 1, 1)
  | .sub_B => (.alu .sub .B, 1, 1)
  | .sub_C => (.alu .sub .C, 1, 1)
  | .sub_D => (.alu .sub .D, 1, 1)
  | .sub_E => (.alu .sub .E, 1, 1)
  | .sub_H => (.alu .sub .H, 1, 1)
  | .sub_L => (.alu .sub .L, 1, 1)
  | .sub_mHL => (.alu .sub .mHL, 2, 2)
  | .sub_A => (.alu .sub .A, 1, 1)
  | .sbc_A_B => (.alu .sbc .B, 1, 1)
  | .sbc_A_C => (.alu .sbc .C, 1, 1)
  | .sbc_A_D => (.alu .sbc .D, 1, 1)
  | .sbc_A_E => (.alu .sbc .E, 1, 1)
  | .sbc_A_H => (.alu .sbc .H, 1, 1)
  | .sbc_A_L => (.alu .sbc .L, 1, 1)
  | .sbc_A_mHL => (.alu .sbc .mHL, 2, 2)
  | .sbc_A_A => (.alu .sbc .A, 1, 1)
  | .and_B => (.alu .and .B, 1, 1)
  | .and_C => (.alu .and .C, 1, 1)
  | .and_D => (.alu .and .D, 1, 1)
  | .and_E => (.alu .and .E, 1, 1)
  | .and_H => (.alu .and .H, 1, 1)
  | .and_L => (.alu .and .L, 1, 1)
  | .and_mHL => (.alu .and .mHL, 2, 2)
  | .and_A => (.alu .and .A, 1, 1)
  | .xor_B => (.alu .xor .B, 1, 1)
  | .xor_C => (.alu .xor .C, 1, 1)
  | .xor_D => (.alu .xor .D, 1, 1)
  | .xor_E => (.alu .xor .E, 1, 1)
  | .xor_H => (.alu .xor .H, 1, 1)
  | .xor_L => (.alu .xor .L, 1, 1)
  | .xor_mHL => (.alu .xor .mHL, 2, 2)
  | .xor_A => (.alu .xor .A, 1, 1)
  | .or_B => (.alu .or .B, 1, 1)
  | .or_C => (.alu .or .C, 1, 1)
  | .or_D => (.alu .or .D, 1, 1)
  | .or_E => (.alu .or .E, 1, 1)
  | .or_H => (.alu .or .H, 1, 1)
  | .or_L => (.alu .or .L, 1, 1)
  | .or_mHL => (.alu .or .mHL, 2, 2)
  | .or_A => (.alu .or .A, 1, 1)
  | .cp_B => (.alu .cp .B, 1, 1)
  | .cp_C => (.alu .cp .C, 1, 1)
  | .cp_D => (.alu .cp .D, 1, 1)
  | .cp_E => (.alu .cp .E, 1, 1)
  | .cp_H => (.alu .cp .H, 1, 1)
  | .cp_L => (.alu .cp .L, 1, 1)
  | .cp_mHL => (.alu .cp .mHL, 2, 2)
  | .cp_A => (.alu .cp .A, 1, 1)
  | .ret_NZ => (.retIf .NZ, 2, 5)
  | .pop_BC => (.pop .BC, 3, 3)
  | .jp_NZ_u16 nn => (.jpIf .NZ nn, 3, 4)
  | .jp_u16 nn => (.jp nn, 4, 4)
  | .call_NZ_u16 nn => (.callIf .NZ nn, 3, 6)
  | .push_BC => (.push .BC, 4, 4)
  | .add_A_u8 n => (.aluImm .add n, 2, 2)
  | .rst_00 => (.rst .i0, 4, 4)
  | .ret_Z => (.retIf .Z, 2, 5)
  | .ret => (.ret, 4, 4)
  | .jp_Z_u16 nn => (.jpIf .Z nn, 3, 4)
  | .prefix_CB => (.prefixCb, 0, 0)
  | .call_Z_u16 nn => (.callIf .Z nn, 3, 6)
  | .call_u16 nn => (.call nn, 6, 6)
  | .adc_A_u8 n => (.aluImm .adc n, 2, 2)
  | .rst_08 => (.rst .i1, 4, 4)
  | .ret_NC => (.retIf .NC, 2, 5)
  | .pop_DE => (.pop .DE, 3, 3)
  | .jp_NC_u16 nn => (.jpIf .NC nn, 3, 4)
  | .unused_D3 => (.noOp, 1, 1)
  | .call_NC_u16 nn => (.callIf .NC nn, 3, 6)
  | .push_DE => (.push .DE, 4, 4)
  | .sub_u8 n => (.aluImm .sub n, 2, 2)
  | .rst_10 => (.rst .i2, 4, 4)
  | .ret_C => (.retIf .C, 2, 5)
  | .reti => (.reti, 4, 4)
  | .jp_C_u16 nn => (.jpIf .C nn, 3, 4)
  | .unused_DB => (.noOp, 1, 1)
  | .call_C_u16 nn => (.callIf .C nn, 3, 6)
  | .unused_DD => (.noOp, 1, 1)
  | .sbc_A_u8 n => (.aluImm .sbc n, 2, 2)
  | .rst_18 => (.rst .i3, 4, 4)
  | .ldh_mU8_A n => (.storeA (.high n), 3, 3)
  | .pop_HL => (.pop .HL, 3, 3)
  | .ld_mC_A => (.storeA .highC, 2, 2)
  | .unused_E3 => (.noOp, 1, 1)
  | .unused_E4 => (.noOp, 1, 1)
  | .push_HL => (.push .HL, 4, 4)
  | .and_u8 n => (.aluImm .and n, 2, 2)
  | .rst_20 => (.rst .i4, 4, 4)
  | .add_SP_i8 e => (.addSP e, 4, 4)
  | .jp_HL => (.jpHL, 1, 1)
  | .ld_mU16_A nn => (.storeA (.abs nn), 4, 4)
  | .unused_EB => (.noOp, 1, 1)
  | .unused_EC => (.noOp, 1, 1)
  | .unused_ED => (.noOp, 1, 1)
  | .xor_u8 n => (.aluImm .xor n, 2, 2)
  | .rst_28 => (.rst .i5, 4, 4)
  | .ldh_A_mU8 n => (.loadA (.high n), 3, 3)
  | .pop_AF => (.pop .AF, 3, 3)
  | .ld_A_mC => (.loadA .highC, 2, 2)
  | .di => (.di, 1, 1)
  | .unused_F4 => (.noOp, 1, 1)
  | .push_AF => (.push .AF, 4, 4)
  | .or_u8 n => (.aluImm .or n, 2, 2)
  | .rst_30 => (.rst .i6, 4, 4)
  | .ld_HL_SPi8 e => (.loadHLSP e, 3, 3)
  | .ld_SP_HL => (.loadSPHL, 2, 2)
  | .ld_A_mU16 nn => (.loadA (.abs nn), 4, 4)
  | .ei => (.ei, 1, 1)
  | .unused_FC => (.noOp, 1, 1)
  | .unused_FD => (.noOp, 1, 1)
  | .cp_u8 n => (.aluImm .cp n, 2, 2)
  | .rst_38 => (.rst .i7, 4, 4)
  | .rlc_B => (.cbShift .rlc .B, 2, 2)
  | .rlc_C => (.cbShift .rlc .C, 2, 2)
  | .rlc_D => (.cbShift .rlc .D, 2, 2)
  | .rlc_E => (.cbShift .rlc .E, 2, 2)
  | .rlc_H => (.cbShift .rlc .H, 2, 2)
  | .rlc_L => (.cbShift .rlc .L, 2, 2)
  | .rlc_mHL => (.cbShift .rlc .mHL, 4, 4)
  | .rlc_A => (.cbShift .rlc .A, 2, 2)
  | .rrc_B => (.cbShift .rrc .B, 2, 2)
  | .rrc_C => (.cbShift .rrc .C, 2, 2)
  | .rrc_D => (.cbShift .rrc .D, 2, 2)
  | .rrc_E => (.cbShift .rrc .E, 2, 2)
  | .rrc_H => (.cbShift .rrc .H, 2, 2)
  | .rrc_L => (.cbShift .rrc .L, 2, 2)
  | .rrc_mHL => (.cbShift .rrc .mHL, 4, 4)
  | .rrc_A => (.cbShift .rrc .A, 2, 2)
  | .rl_B => (.cbShift .rl .B, 2, 2)
  | .rl_C => (.cbShift .rl .C, 2, 2)
  | .rl_D => (.cbShift .rl .D, 2, 2)
  | .rl_E => (.cbShift .rl .E, 2, 2)
  | .rl_H => (.cbShift .rl .H, 2, 2)
  | .rl_L => (.cbShift .rl .L, 2, 2)
  | .rl_mHL => (.cbShift .rl .mHL, 4, 4)
  | .rl_A => (.cbShift .rl .A, 2, 2)
  | .rr_B => (.cbShift .rr .B, 2, 2)
  | .rr_C => (.cbShift .rr .C, 2, 2)
  | .rr_D => (.cbShift .rr .D, 2, 2)
  | .rr_E => (.cbShift .rr .E, 2, 2)
  | .rr_H => (.cbShift .rr .H, 2, 2)
  | .rr_L => (.cbShift .rr .L, 2, 2)
  | .rr_mHL => (.cbShift .rr .mHL, 4, 4)
  | .rr_A => (.cbShift .rr .A, 2, 2)
  | .sla_B => (.cbShift .sla .B, 2, 2)
  | .sla_C => (.cbShift .sla .C, 2, 2)
  | .sla_D => (.cbShift .sla .D, 2, 2)
  | .sla_E => (.cbShift .sla .E, 2, 2)
  | .sla_H => (.cbShift .sla .H, 2, 2)
  | .sla_L => (.cbShift .sla .L, 2, 2)
  | .sla_mHL => (.cbShift .sla .mHL, 4, 4)
  | .sla_A => (.cbShift .sla .A, 2, 2)
  | .sra_B => (.cbShift .sra .B, 2, 2)
  | .sra_C => (.cbShift .sra .C, 2, 2)
  | .sra_D => (.cbShift .sra .D, 2, 2)
  | .sra_E => (.cbShift .sra .E, 2, 2)
  | .sra_H => (.cbShift .sra .H, 2, 2)
  | .sra_L => (.cbShift .sra .L, 2, 2)
  | .sra_mHL => (.cbShift .sra .mHL, 4, 4)
  | .sra_A => (.cbShift .sra .A, 2, 2)
  | .swap_B => (.cbShift .swap .B, 2, 2)
  | .swap_C => (.cbShift .swap .C, 2, 2)
  | .swap_D => (.cbShift .swap .D, 2, 2)
  | .swap_E => (.cbShift .swap .E, 2, 2)
  | .swap_H => (.cbShift .swap .H, 2, 2)
  | .swap_L => (.cbShift .swap .L, 2, 2)
  | .swap_mHL => (.cbShift .swap .mHL, 4, 4)
  | .swap_A => (.cbShift .swap .A, 2, 2)
  | .srl_B => (.cbShift .srl .B, 2, 2)
  | .srl_C => (.cbShift .srl .C, 2, 2)
  | .srl_D => (.cbShift .srl .D, 2, 2)
  | .srl_E => (.cbShift .srl .E, 2, 2)
  | .srl_H => (.cbShift .srl .H, 2, 2)
  | .srl_L => (.cbShift .srl .L, 2, 2)
  | .srl_mHL => (.cbShift .srl .mHL, 4, 4)
  | .srl_A => (.cbShift .srl .A, 2, 2)
  | .bit_0_B => (.cbBit .i0 .B, 2, 2)
  | .bit_0_C => (.cbBit .i0 .C, 2, 2)
  | .bit_0_D => (.cbBit .i0 .D, 2, 2)
  | .bit_0_E => (.cbBit .i0 .E, 2, 2)
  | .bit_0_H => (.cbBit .i0 .H, 2, 2)
  | .bit_0_L => (.cbBit .i0 .L, 2, 2)
  | .bit_0_mHL => (.cbBit .i0 .mHL, 3, 3)
  | .bit_0_A => (.cbBit .i0 .A, 2, 2)
  | .bit_1_B => (.cbBit .i1 .B, 2, 2)
  | .bit_1_C => (.cbBit .i1 .C, 2, 2)
  | .bit_1_D => (.cbBit .i1 .D, 2, 2)
  | .bit_1_E => (.cbBit .i1 .E, 2, 2)
  | .bit_1_H => (.cbBit .i1 .H, 2, 2)
  | .bit_1_L => (.cbBit .i1 .L, 2, 2)
  | .bit_1_mHL => (.cbBit .i1 .mHL, 3, 3)
  | .bit_1_A => (.cbBit .i1 .A, 2, 2)
  | .bit_2_B => (.cbBit .i2 .B, 2, 2)
  | .bit_2_C => (.cbBit .i2 .C, 2, 2)
  | .bit_2_D => (.cbBit .i2 .D, 2, 2)
  | .bit_2_E => (.cbBit .i2 .E, 2, 2)
  | .bit_2_H => (.cbBit .i2 .H, 2, 2)
  | .bit_2_L => (.cbBit .i2 .L, 2, 2)
  | .bit_2_mHL => (.cbBit .i2 .mHL, 3, 3)
  | .bit_2_A => (.cbBit .i2 .A, 2, 2)
  | .bit_3_B => (.cbBit .i3 .B, 2, 2)
  | .bit_3_C => (.cbBit .i3 .C, 2, 2)
  | .bit_3_D => (.cbBit .i3 .D, 2, 2)
  | .bit_3_E => (.cbBit .i3 .E, 2, 2)
  | .bit_3_H => (.cbBit .i3 .H, 2, 2)
  | .bit_3_L => (.cbBit .i3 .L, 2, 2)
  | .bit_3_mHL => (.cbBit .i3 .mHL, 3, 3)
  | .bit_3_A => (.cbBit .i3 .A, 2, 2)
  | .bit_4_B => (.cbBit .i4 .B, 2, 2)
  | .bit_4_C => (.cbBit .i4 .C, 2, 2)
  | .bit_4_D => (.cbBit .i4 .D, 2, 2)
  | .bit_4_E => (.cbBit .i4 .E, 2, 2)
  | .bit_4_H => (.cbBit .i4 .H, 2, 2)
  | .bit_4_L => (.cbBit .i4 .L, 2, 2)
  | .bit_4_mHL => (.cbBit .i4 .mHL, 3, 3)
  | .bit_4_A => (.cbBit .i4 .A, 2, 2)
  | .bit_5_B => (.cbBit .i5 .B, 2, 2)
  | .bit_5_C => (.cbBit .i5 .C, 2, 2)
  | .bit_5_D => (.cbBit .i5 .D, 2, 2)
  | .bit_5_E => (.cbBit .i5 .E, 2, 2)
  | .bit_5_H => (.cbBit .i5 .H, 2, 2)
  | .bit_5_L => (.cbBit .i5 .L, 2, 2)
  | .bit_5_mHL => (.cbBit .i5 .mHL, 3, 3)
  | .bit_5_A => (.cbBit .i5 .A, 2, 2)
  | .bit_6_B => (.cbBit .i6 .B, 2, 2)
  | .bit_6_C => (.cbBit .i6 .C, 2, 2)
  | .bit_6_D => (.cbBit .i6 .D, 2, 2)
  | .bit_6_E => (.cbBit .i6 .E, 2, 2)
  | .bit_6_H => (.cbBit .i6 .H, 2, 2)
  | .bit_6_L => (.cbBit .i6 .L, 2, 2)
  | .bit_6_mHL => (.cbBit .i6 .mHL, 3, 3)
  | .bit_6_A => (.cbBit .i6 .A, 2, 2)
  | .bit_7_B => (.cbBit .i7 .B, 2, 2)
  | .bit_7_C => (.cbBit .i7 .C, 2, 2)
  | .bit_7_D => (.cbBit .i7 .D, 2, 2)
  | .bit_7_E => (.cbBit .i7 .E, 2, 2)
  | .bit_7_H => (.cbBit .i7 .H, 2, 2)
  | .bit_7_L => (.cbBit .i7 .L, 2, 2)
  | .bit_7_mHL => (.cbBit .i7 .mHL, 3, 3)
  | .bit_7_A => (.cbBit .i7 .A, 2, 2)
  | .res_0_B => (.cbRes .i0 .B, 2, 2)
  | .res_0_C => (.cbRes .i0 .C, 2, 2)
  | .res_0_D => (.cbRes .i0 .D, 2, 2)
  | .res_0_E => (.cbRes .i0 .E, 2, 2)
  | .res_0_H => (.cbRes .i0 .H, 2, 2)
  | .res_0_L => (.cbRes .i0 .L, 2, 2)
  | .res_0_mHL => (.cbRes .i0 .mHL, 4, 4)
  | .res_0_A => (.cbRes .i0 .A, 2, 2)
  | .res_1_B => (.cbRes .i1 .B, 2, 2)
  | .res_1_C => (.cbRes .i1 .C, 2, 2)
  | .res_1_D => (.cbRes .i1 .D, 2, 2)
  | .res_1_E => (.cbRes .i1 .E, 2, 2)
  | .res_1_H => (.cbRes .i1 .H, 2, 2)
  | .res_1_L => (.cbRes .i1 .L, 2, 2)
  | .res_1_mHL => (.cbRes .i1 .mHL, 4, 4)
  | .res_1_A => (.cbRes .i1 .A, 2, 2)
  | .res_2_B => (.cbRes .i2 .B, 2, 2)
  | .res_2_C => (.cbRes .i2 .C, 2, 2)
  | .res_2_D => (.cbRes .i2 .D, 2, 2)
  | .res_2_E => (.cbRes .i2 .E, 2, 2)
  | .res_2_H => (.cbRes .i2 .H, 2, 2)
  | .res_2_L => (.cbRes .i2 .L, 2, 2)
  | .res_2_mHL => (.cbRes .i2 .mHL, 4, 4)
  | .res_2_A => (.cbRes .i2 .A, 2, 2)
  | .res_3_B => (.cbRes .i3 .B, 2, 2)
  | .res_3_C => (.cbRes .i3 .C, 2, 2)
  | .res_3_D => (.cbRes .i3 .D, 2, 2)
  | .res_3_E => (.cbRes .i3 .E, 2, 2)
  | .res_3_H => (.cbRes .i3 .H, 2, 2)
  | .res_3_L => (.cbRes .i3 .L, 2, 2)
  | .res_3_mHL => (.cbRes .i3 .mHL, 4, 4)
  | .res_3_A => (.cbRes .i3 .A, 2, 2)
  | .res_4_B => (.cbRes .i4 .B, 2, 2)
  | .res_4_C => (.cbRes .i4 .C, 2, 2)
  | .res_4_D => (.cbRes .i4 .D, 2, 2)
  | .res_4_E => (.cbRes .i4 .E, 2, 2)
  | .res_4_H => (.cbRes .i4 .H, 2, 2)
  | .res_4_L => (.cbRes .i4 .L, 2, 2)
  | .res_4_mHL => (.cbRes .i4 .mHL, 4, 4)
  | .res_4_A => (.cbRes .i4 .A, 2, 2)
  | .res_5_B => (.cbRes .i5 .B, 2, 2)
  | .res_5_C => (.cbRes .i5 .C, 2, 2)
  | .res_5_D => (.cbRes .i5 .D, 2, 2)
  | .res_5_E => (.cbRes .i5 .E, 2, 2)
  | .res_5_H => (.cbRes .i5 .H, 2, 2)
  | .res_5_L => (.cbRes .i5 .L, 2, 2)
  | .res_5_mHL => (.cbRes .i5 .mHL, 4, 4)
  | .res_5_A => (.cbRes .i5 .A, 2, 2)
  | .res_6_B => (.cbRes .i6 .B, 2, 2)
  | .res_6_C => (.cbRes .i6 .C, 2, 2)
  | .res_6_D => (.cbRes .i6 .D, 2, 2)
  | .res_6_E => (.cbRes .i6 .E, 2, 2)
  | .res_6_H => (.cbRes .i6 .H, 2, 2)
  | .res_6_L => (.cbRes .i6 .L, 2, 2)
  | .res_6_mHL => (.cbRes .i6 .mHL, 4, 4)
  | .res_6_A => (.cbRes .i6 .A, 2, 2)
  | .res_7_B => (.cbRes .i7 .B, 2, 2)
  | .res_7_C => (.cbRes .i7 .C, 2, 2)
  | .res_7_D => (.cbRes .i7 .D, 2, 2)
  | .res_7_E => (.cbRes .i7 .E, 2, 2)
  | .res_7_H => (.cbRes .i7 .H, 2, 2)
  | .res_7_L => (.cbRes .i7 .L, 2, 2)
  | .res_7_mHL => (.cbRes .i7 .mHL, 4, 4)
  | .res_7_A => (.cbRes .i7 .A, 2, 2)
  | .set_0_B => (.cbSet .i0 .B, 2, 2)
  | .set_0_C => (.cbSet .i0 .C, 2, 2)
  | .set_0_D => (.cbSet .i0 .D, 2, 2)
  | .set_0_E => (.cbSet .i0 .E, 2, 2)
  | .set_0_H => (.cbSet .i0 .H, 2, 2)
  | .set_0_L => (.cbSet .i0 .L, 2, 2)
  | .set_0_mHL => (.cbSet .i0 .mHL, 4, 4)
  | .set_0_A => (.cbSet .i0 .A, 2, 2)
  | .set_1_B => (.cbSet .i1 .B, 2, 2)
  | .set_1_C => (.cbSet .i1 .C, 2, 2)
  | .set_1_D => (.cbSet .i1 .D, 2, 2)
  | .set_1_E => (.cbSet .i1 .E, 2, 2)
  | .set_1_H => (.cbSet .i1 .H, 2, 2)
  | .set_1_L => (.cbSet .i1 .L, 2, 2)
  | .set_1_mHL => (.cbSet .i1 .mHL, 4, 4)
  | .set_1_A => (.cbSet .i1 .A, 2, 2)
  | .set_2_B => (.cbSet .i2 .B, 2, 2)
  | .set_2_C => (.cbSet .i2 .C, 2, 2)
  | .set_2_D => (.cbSet .i2 .D, 2, 2)
  | .set_2_E => (.cbSet .i2 .E, 2, 2)
  | .set_2_H => (.cbSet .i2 .H, 2, 2)
  | .set_2_L => (.cbSet .i2 .L, 2, 2)
  | .set_2_mHL => (.cbSet .i2 .mHL, 4, 4)
  | .set_2_A => (.cbSet .i2 .A, 2, 2)
  | .set_3_B => (.cbSet .i3 .B, 2, 2)
  | .set_3_C => (.cbSet .i3 .C, 2, 2)
  | .set_3_D => (.cbSet .i3 .D, 2, 2)
  | .set_3_E => (.cbSet .i3 .E, 2, 2)
  | .set_3_H => (.cbSet .i3 .H, 2, 2)
  | .set_3_L => (.cbSet .i3 .L, 2, 2)
  | .set_3_mHL => (.cbSet .i3 .mHL, 4, 4)
  | .set_3_A => (.cbSet .i3 .A, 2, 2)
  | .set_4_B => (.cbSet .i4 .B, 2, 2)
  | .set_4_C => (.cbSet .i4 .C, 2, 2)
  | .set_4_D => (.cbSet .i4 .D, 2, 2)
  | .set_4_E => (.cbSet .i4 .E, 2, 2)
  | .set_4_H => (.cbSet .i4 .H, 2, 2)
  | .set_4_L => (.cbSet .i4 .L, 2, 2)
  | .set_4_mHL => (.cbSet .i4 .mHL, 4, 4)
  | .set_4_A => (.cbSet .i4 .A, 2, 2)
  | .set_5_B => (.cbSet .i5 .B, 2, 2)
  | .set_5_C => (.cbSet .i5 .C, 2, 2)
  | .set_5_D => (.cbSet .i5 .D, 2, 2)
  | .set_5_E => (.cbSet .i5 .E, 2, 2)
  | .set_5_H => (.cbSet .i5 .H, 2, 2)
  | .set_5_L => (.cbSet .i5 .L, 2, 2)
  | .set_5_mHL => (.cbSet .i5 .mHL, 4, 4)
  | .set_5_A => (.cbSet .i5 .A, 2, 2)
  | .set_6_B => (.cbSet .i6 .B, 2, 2)
  | .set_6_C => (.cbSet .i6 .C, 2, 2)
  | .set_6_D => (.cbSet .i6 .D, 2, 2)
  | .set_6_E => (.cbSet .i6 .E, 2, 2)
  | .set_6_H => (.cbSet .i6 .H, 2, 2)
  | .set_6_L => (.cbSet .i6 .L, 2, 2)
  | .set_6_mHL => (.cbSet .i6 .mHL, 4, 4)
  | .set_6_A => (.cbSet .i6 .A, 2, 2)
  | .set_7_B => (.cbSet .i7 .B, 2, 2)
  | .set_7_C => (.cbSet .i7 .C, 2, 2)
  | .set_7_D => (.cbSet .i7 .D, 2, 2)
  | .set_7_E => (.cbSet .i7 .E, 2, 2)
  | .set_7_H => (.cbSet .i7 .H, 2, 2)
  | .set_7_L => (.cbSet .i7 .L, 2, 2)
  | .set_7_mHL => (.cbSet .i7 .mHL, 4, 4)
  | .set_7_A => (.cbSet .i7 .A, 2, 2)

/-- Every instruction does what its shape says, with its own slot and costs. -/
theorem exec_eq_run (i : Instr) (s : State) : exec i s = (rowOf i).1.run (slotOf i) (rowOf i).2.1 (rowOf i).2.2 s := by
  cases i <;> rfl

theorem storeTargets_eq (i : Instr) (s : State) : storeTargets i s = (rowOf i).1.targets s := by
  cases i <;> rfl

theorem flagColumn_eq (i : Instr) : flagColumn i = (rowOf i).1.column := by
  cases i <;> rfl

end Sys2Proof.Machine
end

