-- ==== Sys2Proof/Laws/Steady.lean ====
section
/-! SUPPORT. The invariant, piece by piece: what the Bus, the timers and the environment keep of it. -/

namespace Sys2Proof.Machine

/-- The invariant without the bound on timerAccum, which a write to TAC can break until AdvanceTimers runs (R386). -/
structure Steady (s : State) : Prop where
  flagNibble : s.f &&& 0x0F = 0
  primaryNonzero : s.primary ≠ 0
  divAccumBound : s.divAccum < 256
  eiAbsent : s.cfg.eiDelay = .none → s.eiPending = false
  haltBugAbsent : s.cfg.haltBugMode = .rewind → s.haltBugPending = false
  memCanonical : s.mem.wf = true
  memInside : s.mem.keysIn plainKey = true
  cartRamCanonical : s.cartRam.wf = true
  cartRamInside : (s.cartRam.keysIn fun k => decide (k < s.cart.ramSize.bytes)) = true
  cartWf : s.cart.wf = true

theorem Inv.steady {s : State} (h : Inv s) : Steady s :=
  ⟨h.flagNibble, h.primaryNonzero, h.divAccumBound, h.eiAbsent, h.haltBugAbsent, h.memCanonical, h.memInside,
    h.cartRamCanonical, h.cartRamInside, h.cartWf⟩

/-- Steadiness depends on ten fields; the flag byte, the waiting EI and the waiting HALT bug may change within its terms. -/
theorem Steady.congr {s t : State} (h : Steady s) (hf : t.f &&& 0x0F = 0) (hcfg : t.cfg = s.cfg) (hcart : t.cart = s.cart)
    (hp : t.primary = s.primary) (hd : t.divAccum = s.divAccum) (hm : t.mem = s.mem) (hr : t.cartRam = s.cartRam)
    (he : s.cfg.eiDelay = .none → t.eiPending = false) (hb : s.cfg.haltBugMode = .rewind → t.haltBugPending = false) :
    Steady t where
  flagNibble := hf
  primaryNonzero := hp ▸ h.primaryNonzero
  divAccumBound := hd ▸ h.divAccumBound
  eiAbsent := hcfg ▸ he
  haltBugAbsent := hcfg ▸ hb
  memCanonical := hm ▸ h.memCanonical
  memInside := hm ▸ h.memInside
  cartRamCanonical := hr ▸ h.cartRamCanonical
  cartRamInside := by rw [hr, hcart]; exact h.cartRamInside
  cartWf := hcart ▸ h.cartWf

/-- A change of no such field keeps it. -/
theorem Steady.same {s t : State} (h : Steady s) (hf : t.f = s.f) (hcfg : t.cfg = s.cfg) (hcart : t.cart = s.cart)
    (hp : t.primary = s.primary) (hd : t.divAccum = s.divAccum) (hm : t.mem = s.mem) (hr : t.cartRam = s.cartRam)
    (he : t.eiPending = s.eiPending) (hb : t.haltBugPending = s.haltBugPending) : Steady t :=
  h.congr (hf ▸ h.flagNibble) hcfg hcart hp hd hm hr (he ▸ h.eiAbsent) (hb ▸ h.haltBugAbsent)

/-- A byte stored in the plain array keeps it. -/
theorem Steady.memWrite {s : State} (h : Steady s) {a : Word} (v : Byte) (ha : isPlain a = true) :
    Steady { s with mem := s.mem.write a.toNat v } :=
  { h with
    memCanonical := Memory.wf_write _ _ h.memCanonical
    memInside := Memory.keysIn_write _ h.memInside (plainKey_of_plain ha) }

/-- A write of the Bus keeps it. -/
theorem Steady.store {s : State} (h : Steady s) (a : Word) (v : Byte) : Steady (Machine.store a v s) := by
  obtain g | ⟨g1, g2⟩ | ⟨g1, g2⟩ | g | g | g | g | g | g | g := regions a
  · rw [store_rom v s g]
    split
    · unfold mbc1Write
      split_ifs
      · exact h.same rfl rfl rfl rfl rfl rfl rfl rfl rfl
      · refine { h with primaryNonzero := ?_ }
        simp
      · refine { h with primaryNonzero := ?_ }
        assumption
      all_goals exact h.same rfl rfl rfl rfl rfl rfl rfl rfl rfl
    · exact h
  · rw [store_window v s g1 g2]
    split
    · rename_i ho
      exact { h with
        cartRamCanonical := Memory.wf_write _ _ h.cartRamCanonical
        cartRamInside := Memory.keysIn_write _ h.cartRamInside (by simpa using cartRamOffset_lt ho g1 g2) }
    · exact h
  · rw [store_unmapped v s g1 g2]; exact h
  · rw [store_plain v s g]; exact h.memWrite v g
  all_goals subst g; exact h.same rfl rfl rfl rfl rfl rfl rfl rfl rfl

theorem Steady.afterRead {s : State} (h : Steady s) (a : Word) : Steady (Machine.afterRead a s) := by
  rw [afterRead_frame]; exact h.same rfl rfl rfl rfl rfl rfl rfl rfl rfl

theorem Steady.pushed {s : State} (h : Steady s) (v : Word) : Steady (Machine.pushed v s) :=
  ((h.same (t := { s with sp := s.sp - 2 }) rfl rfl rfl rfl rfl rfl rfl rfl rfl).store _ _).store _ _

theorem Steady.afterPop {s : State} (h : Steady s) : Steady (Machine.afterPop s) := by
  rw [afterPop_frame]; exact h.same rfl rfl rfl rfl rfl rfl rfl rfl rfl

theorem Steady.put {s : State} (h : Steady s) (r : R8) (v : Byte) : Steady (Machine.put r v s) := by
  cases r
  case mHL => exact h.store _ _
  all_goals exact h.same rfl rfl rfl rfl rfl rfl rfl rfl rfl

theorem Steady.afterOpnd {s : State} (h : Steady s) (r : R8) : Steady (Machine.afterOpnd r s) := by
  rw [afterOpnd_frame]; exact h.same rfl rfl rfl rfl rfl rfl rfl rfl rfl

theorem period_pos (tac : Byte) : 0 < period tac := by
  unfold period
  split_ifs <;> decide

/-- AdvanceTimers restores the bound on timerAccum. -/
theorem Steady.advanceTimers {s : State} (h : Steady s) (n : Nat) : Inv (Machine.advanceTimers n s) := by
  have hd : (Machine.advanceTimers n s).divAccum < 256 := by
    have hdiv : ∀ m, (advanceDivider m s).divAccum < 256 := fun m => by
      unfold advanceDivider
      split
      · exact Nat.mod_lt _ (by decide)
      · exact h.divAccumBound
    simpa [Machine.advanceTimers] using hdiv _
  have ht : timerOn (Machine.advanceTimers n s) = true →
      (Machine.advanceTimers n s).timerAccum < period (Machine.advanceTimers n s).tac := by
    intro hon
    rw [timerOn, advanceTimers_tac] at hon
    rw [advanceTimers_tac]
    unfold Machine.advanceTimers advanceTimer
    rw [if_pos (by simpa [timerOn] using hon)]
    simp only [timaTicks_timerAccum, advanceDivider_tac]
    exact Nat.mod_lt _ (period_pos _)
  exact {
    flagNibble := by simpa using h.flagNibble
    primaryNonzero := by simpa using h.primaryNonzero
    divAccumBound := hd
    timerAccumBound := ht
    eiAbsent := by simpa using h.eiAbsent
    haltBugAbsent := by simpa using h.haltBugAbsent
    memCanonical := by simpa using h.memCanonical
    memInside := by simpa using h.memInside
    cartRamCanonical := by simpa using h.cartRamCanonical
    cartRamInside := by simpa using h.cartRamInside
    cartWf := by simpa using h.cartWf }

/-- The environment's writes keep it. -/
theorem Inv.envWrites {s : State} (h : Inv s) (ws : List (Word × Byte)) : Inv (Machine.envWrites ws s) := by
  induction ws generalizing s with
  | nil => exact h
  | cons w ws ih =>
    obtain ⟨a, v⟩ := w
    refine ih ?_
    split
    · rename_i hd
      have hp : isPlain a = true := (isPlain_iff a).2 (.inr hd)
      exact { h with
        memCanonical := Memory.wf_write _ _ h.memCanonical
        memInside := Memory.keysIn_write _ h.memInside (plainKey_of_plain hp) }
    · exact h

/-- The environment's turn keeps it. -/
theorem Inv.envTurn {s : State} (h : Inv s) : Inv (Machine.envTurn s) := by
  unfold Machine.envTurn
  split
  · exact h
  · refine Inv.envWrites ?_ _
    exact { h with }

end Sys2Proof.Machine
end

