-- ==== Sys2Proof/Laws/Step.lean ====
section
/-! SUPPORT. What a step does: fetch, wake, dispatch, and the three ways it goes on. -/

namespace Sys2Proof.Machine

open Laws.EncodedLength (announced)

theorem stored_setPC (a v : Word) (s : State) : stored a (setPC v s) = stored a s := rfl

/-- A byte fetch that neither stops nor draws. -/
theorem fetch8_quiet {s : State} {k : Byte → State → Out} (h : open_ s.pc s) (hd : drawn s.pc s = false) :
    fetch8 s k = k (stored s.pc s) (setPC (s.pc + 1) s) := by
  rw [fetch8, read8_open _ h, readByte_of_not_drawn hd, afterRead_of_not_drawn hd]

theorem fetch8_next {s t : State} {k : Byte → State → Out} :
    fetch8 s k = .next t ↔ open_ s.pc s ∧ k (readByte s.pc s) (setPC ((afterRead s.pc s).pc + 1) (afterRead s.pc s)) = .next t := by
  simp [fetch8]

/-- The fetch of the instruction at PC leaves PC after it and nothing else changed. -/
theorem fetchInstr_at {i : Instr} {s : State} (h : AtInstruction i s) (k : Instr → State → Out) :
    fetchInstr s k = k i (afterFetch i s) := by
  obtain ⟨-, -, hb, ⟨rest, hdec⟩, hf⟩ := h
  have h0 : fetchOpcode s = fetch8 s := by
    funext k
    simp [fetchOpcode, hb]
  have e0 : s.pc + BitVec.ofNat 16 0 = s.pc := BitVec.add_zero _
  have e1 : s.pc + BitVec.ofNat 16 1 = s.pc + 1 := rfl
  have e2 : s.pc + BitVec.ofNat 16 2 = s.pc + 1 + 1 := by rw [BitVec.add_assoc]; rfl
  have hlen : ∀ b1 b2, i = decodeBytes (stored s.pc s) b1 b2 → (encode i).length = announced (stored s.pc s) :=
    fun b1 b2 hi => hi ▸ encode_length_decodeBytes _ _ _
  unfold decode at hdec
  unfold fetchInstr afterFetch
  rw [h0]
  cases hl : lengthOf (stored s.pc s)
  · simp only [hl, Except.ok.injEq, Prod.mk.injEq] at hdec
    have hn : (encode i).length = 1 := by rw [hlen _ _ hdec.1.symm, announced, hl]
    obtain ⟨o0, d0⟩ := hf 0 (by omega)
    rw [e0] at o0 d0
    rw [fetch8_quiet o0 d0, hl, hn]
    simp only [hdec.1]
    rfl
  · simp only [hl, Except.ok.injEq, Prod.mk.injEq] at hdec
    have hn : (encode i).length = 2 := by rw [hlen _ _ hdec.1.symm, announced, hl]
    obtain ⟨o0, d0⟩ := hf 0 (by omega)
    obtain ⟨o1, d1⟩ := hf 1 (by omega)
    rw [e0] at o0 d0
    rw [e1] at o1 d1
    rw [fetch8_quiet o0 d0, hl, hn]
    simp only
    rw [fetch8_quiet (s := setPC (s.pc + 1) s) o1 d1, e2]
    simp only [stored_setPC, setPC_pc, hdec.1]
    rfl
  · simp only [hl, Except.ok.injEq, Prod.mk.injEq] at hdec
    have hn : (encode i).length = 3 := by rw [hlen _ _ hdec.1.symm, announced, hl]
    obtain ⟨o0, d0⟩ := hf 0 (by omega)
    obtain ⟨o1, d1⟩ := hf 1 (by omega)
    obtain ⟨o2, d2⟩ := hf 2 (by omega)
    have e3 : s.pc + BitVec.ofNat 16 3 = s.pc + 1 + 1 + 1 := by rw [BitVec.add_assoc, BitVec.add_assoc]; rfl
    have e2' : s.pc + 2 = s.pc + 1 + 1 := by rw [BitVec.add_assoc]; rfl
    rw [e0] at o0 d0
    rw [e1] at o1 d1
    rw [e2] at o2 d2
    rw [e2'] at hdec
    rw [fetch8_quiet o0 d0, hl, hn]
    simp only
    rw [fetch8_quiet (s := setPC (s.pc + 1) s) o1 d1]
    rw [fetch8_quiet (s := setPC ((setPC (s.pc + 1) s).pc + 1) (setPC (s.pc + 1) s)) o2 d2, e3]
    simp only [stored_setPC, setPC_pc, hdec.1]
    rfl

/-- With nothing pending and the core running, the wake changes nothing. -/
theorem wake_running {s : State} (h : s.halted = false) : wake s = s := by
  unfold wake
  split
  · rw [← h]
  · rfl

theorem pending_wake (s : State) : pending (wake s) = pending s := by
  unfold pending
  rw [wake_ie, wake_ifr]

/-- The engine runs the instruction at PC. -/
theorem engineStep_at {i : Instr} {s : State} (h : AtInstruction i s) :
    engineStep exec s = andThen (exec i (afterFetch i s)) fun t => .next (settleEi (eiArmed s) t) := by
  unfold engineStep
  rw [wake_running h.running, h.undisturbed]
  simp only [h.running]
  rw [if_neg (by simp), instructionStep, fetchInstr_at h]

/-- A halted core with nothing pending only counts (R370). -/
theorem engineStep_halted {s : State} (h : s.halted = true) (hp : pending s = 0) : engineStep exec s = .next (haltedStep s) := by
  have hw : wake s = s := by simp [wake, hp]
  have hd : dispatchDue s = none := by
    unfold dispatchDue topRequest
    rw [hp]
    simp
  unfold engineStep
  rw [hw, hd]
  simp [h]

/-- A step of the machine is a step of the engine, then the timers, then the environment. -/
theorem step_next {s t : State} : step s = .next t ↔
    ∃ u, engineStep exec s = .next u ∧ envTurn (advanceTimers u.cycles u) = t := by
  simp [step, machineStep, systemStep]

end Sys2Proof.Machine
end

