-- ==== Sys2Proof/Laws/Stores.lean ====
section
/-! SUPPORT. Memory frames that compose: what changed between two states lies at a list of addresses stored to. -/

namespace Sys2Proof.Machine

/-- Between `s` and `t` bytes were stored at the addresses `T` only. -/
structure OnlyAt (T : List Word) (s t : State) : Prop where
  cart : t.cart = s.cart
  outside : ∀ b, b ∉ T → 0x8000 ≤ b.toNat → ¬ (0xA000 ≤ b.toNat ∧ b.toNat ≤ 0xBFFF) → stored b t = stored b s
  noRom : (∀ a ∈ T, 0x8000 ≤ a.toNat) → (∀ b, b ∉ T → stored b t = stored b s) ∧
    t.ramEnabled = s.ramEnabled ∧ t.primary = s.primary ∧ t.secondary = s.secondary ∧ t.mode = s.mode
  noRam : (∀ a ∈ T, ¬ (0xA000 ≤ a.toNat ∧ a.toNat ≤ 0xBFFF)) → t.cartRam = s.cartRam
  noDiv : 0xFF04 ∉ T → t.divider = s.divider
  none : T = [] → t.mem = s.mem
  divAccum : t.divAccum = s.divAccum
  timerAccum : t.timerAccum = s.timerAccum

/-- With the same arrays and memory-mapped registers, nothing was stored. -/
theorem OnlyAt.of_sameBus {s t : State} (h : SameBus s t) (hd : t.divAccum = s.divAccum) (ht : t.timerAccum = s.timerAccum) :
    OnlyAt [] s t where
  cart := h.cart
  outside _ _ _ _ := stored_eq h _
  noRom _ := ⟨fun _ _ => stored_eq h _, h.ramEnabled, h.primary, h.secondary, h.mode⟩
  noRam _ := h.cartRam
  noDiv _ := h.divider
  none _ := h.mem
  divAccum := hd
  timerAccum := ht

/-- One write stores at its own address only. -/
theorem OnlyAt.store (a : Word) (v : Byte) (s : State) : OnlyAt [a] s (Machine.store a v s) where
  cart := store_cart s a v
  outside b hb h1 h2 := by
    by_cases ha : a.toNat ≤ 0x7FFF
    · exact stored_store_rom v s ha h1 h2
    · exact stored_store_other v s (by omega) (by simpa using hb)
  noRom h := by
    have ha : 0x8000 ≤ a.toNat := h a (by simp)
    refine ⟨fun b hb => stored_store_other v s ha (by simpa using hb), ?_⟩
    obtain g | ⟨g1, g2⟩ | ⟨g1, g2⟩ | g | g | g | g | g | g | g := regions a
    · omega
    · rw [store_window v s g1 g2]; split <;> exact ⟨rfl, rfl, rfl, rfl⟩
    · rw [store_unmapped v s g1 g2]; exact ⟨rfl, rfl, rfl, rfl⟩
    · rw [store_plain v s g]; exact ⟨rfl, rfl, rfl, rfl⟩
    all_goals subst g; exact ⟨rfl, rfl, rfl, rfl⟩
  noRam h := by
    have ha := h a (by simp)
    obtain g | ⟨g1, g2⟩ | ⟨g1, g2⟩ | g | g | g | g | g | g | g := regions a
    · rw [store_rom v s g]; split <;> simp
    · exact absurd ⟨g1, g2⟩ ha
    · rw [store_unmapped v s g1 g2]
    · rw [store_plain v s g]
    all_goals subst g; rfl
  noDiv h := by
    have ha : a ≠ 0xFF04 := fun h' => h (by simp [h'])
    obtain g | ⟨g1, g2⟩ | ⟨g1, g2⟩ | g | g | g | g | g | g | g := regions a
    · rw [store_rom v s g]; split <;> simp
    · rw [store_window v s g1 g2]; split <;> rfl
    · rw [store_unmapped v s g1 g2]
    · rw [store_plain v s g]
    · exact absurd g ha
    all_goals subst g; rfl
  none h := by cases h
  divAccum := store_divAccum s a v
  timerAccum := store_timerAccum s a v

/-- Frames compose. -/
theorem OnlyAt.trans {T U : List Word} {s t u : State} (h : OnlyAt T s t) (h' : OnlyAt U t u) : OnlyAt (T ++ U) s u where
  cart := h'.cart.trans h.cart
  outside b hb h1 h2 := by
    rw [List.mem_append, not_or] at hb
    exact (h'.outside b hb.2 h1 h2).trans (h.outside b hb.1 h1 h2)
  noRom hT := by
    obtain ⟨a1, a2, a3, a4, a5⟩ := h.noRom fun a ha => hT a (List.mem_append_left _ ha)
    obtain ⟨b1, b2, b3, b4, b5⟩ := h'.noRom fun a ha => hT a (List.mem_append_right _ ha)
    refine ⟨fun b hb => ?_, b2.trans a2, b3.trans a3, b4.trans a4, b5.trans a5⟩
    rw [List.mem_append, not_or] at hb
    exact (b1 b hb.2).trans (a1 b hb.1)
  noRam hT := (h'.noRam fun a ha => hT a (List.mem_append_right _ ha)).trans
    (h.noRam fun a ha => hT a (List.mem_append_left _ ha))
  noDiv hT := (h'.noDiv fun ha => hT (List.mem_append_right _ ha)).trans (h.noDiv fun ha => hT (List.mem_append_left _ ha))
  none hT := by
    rw [List.append_eq_nil_iff] at hT
    exact (h'.none hT.2).trans (h.none hT.1)
  divAccum := h'.divAccum.trans h.divAccum
  timerAccum := h'.timerAccum.trans h.timerAccum

/-- A push stores at the two bytes below the old SP. -/
theorem OnlyAt.pushed (v : Word) (s : State) : OnlyAt [s.sp - 2, s.sp - 2 + 1] s (Machine.pushed v s) :=
  ((OnlyAt.of_sameBus (s := s) (t := { s with sp := s.sp - 2 })
    ⟨rfl, rfl, rfl, rfl, rfl, rfl, rfl, rfl, rfl, rfl, rfl, rfl, rfl⟩ rfl rfl).trans
    (OnlyAt.store _ _ _)).trans (OnlyAt.store _ _ _)

/-- The addresses writing an operand stores to. -/
def opndTargets (r : R8) (s : State) : List Word :=
  match r with
  | .mHL => [regHL s]
  | _ => []

theorem OnlyAt.put (r : R8) (v : Byte) (s : State) : OnlyAt (opndTargets r s) s (Machine.put r v s) := by
  cases r
  case mHL => exact OnlyAt.store _ _ _
  all_goals exact OnlyAt.of_sameBus ⟨rfl, rfl, rfl, rfl, rfl, rfl, rfl, rfl, rfl, rfl, rfl, rfl, rfl⟩ rfl rfl

/-- A change of fields no read depends on, before and after. -/
theorem OnlyAt.around {T : List Word} {s s' t' t : State} (h : OnlyAt T s' t') (h1 : SameBus s s') (h2 : SameBus t' t)
    (hd : s'.divAccum = s.divAccum) (ht : s'.timerAccum = s.timerAccum) (hd' : t.divAccum = t'.divAccum)
    (ht' : t.timerAccum = t'.timerAccum) : OnlyAt T s t := by
  have := ((OnlyAt.of_sameBus h1 hd ht).trans h).trans (OnlyAt.of_sameBus h2 hd' ht')
  simpa using this

theorem sameBus_afterRead (a : Word) (s : State) : SameBus s (afterRead a s) := by
  constructor <;> simp

theorem sameBus_afterOpnd (r : R8) (s : State) : SameBus s (afterOpnd r s) := by
  constructor <;> simp

theorem sameBus_afterPop (s : State) : SameBus s (afterPop s) := by
  constructor <;> simp

end Sys2Proof.Machine
end

