-- ==== Sys2Proof/Tests/Slice0.lean ====
section
/-! SUPPORT. The model's own tests: ill-formed terms refused, every row's word decoded, single steps with the results of
spec/95_test_vectors.md, and for each obligation with hypotheses a concrete state and operands that meet them. -/

open Sys2Proof Sys2Proof.Machine

namespace Sys2Proof.Tests

/-! ### WellFormed -/

theorem test_wellFormed_refuses_bare_prefix : Instr.prefix_CB.wellFormed = false := by decide

theorem test_wellFormed_takes_stop : (Instr.stop 0x12).wellFormed = true := by decide

theorem test_wellFormed_refuses_nop_cost :
    Config.wellFormed { Config.default with cycleCost := [⟨.base 0x00, 2, 2⟩] } = false := by decide

theorem test_wellFormed_refuses_ld_bc_cost :
    Config.wellFormed { Config.default with cycleCost := [⟨.base 0x02, 9, 9⟩, ⟨.base 0x01, 4, 4⟩] } = false := by decide

theorem test_wellFormed_takes_other_costs :
    Config.wellFormed { Config.default with cycleCost := [⟨.base 0x02, 9, 9⟩, ⟨.cb 0x00, 3, 3⟩] } = true := by decide

/-! ### Decoding: the word of every row, from the columns `match` and `length` of the opcode table, immediates 0x34 and 0x12 -/

/-- The one instruction a byte list holds. -/
def reads (bs : List Byte) : Option Instr :=
  match decode bs with
  | .ok (i, []) => some i
  | _ => none

def rows_base_0 : List (List Byte × Instr) :=
  [([0x00], .nop), ([0x01, 0x34, 0x12], .ld_BC_u16 0x1234), ([0x02], .ld_mBC_A), ([0x03], .inc_BC), ([0x04], .inc_B),
   ([0x05], .dec_B), ([0x06, 0x34], .ld_B_u8 0x34), ([0x07], .rlca), ([0x08, 0x34, 0x12], .ld_mU16_SP 0x1234),
   ([0x09], .add_HL_BC), ([0x0A], .ld_A_mBC), ([0x0B], .dec_BC), ([0x0C], .inc_C), ([0x0D], .dec_C),
   ([0x0E, 0x34], .ld_C_u8 0x34), ([0x0F], .rrca), ([0x10, 0x34], .stop 0x34), ([0x11, 0x34, 0x12], .ld_DE_u16 0x1234),
   ([0x12], .ld_mDE_A), ([0x13], .inc_DE), ([0x14], .inc_D), ([0x15], .dec_D), ([0x16, 0x34], .ld_D_u8 0x34),
   ([0x17], .rla), ([0x18, 0x34], .jr_i8 0x34), ([0x19], .add_HL_DE), ([0x1A], .ld_A_mDE), ([0x1B], .dec_DE),
   ([0x1C], .inc_E), ([0x1D], .dec_E), ([0x1E, 0x34], .ld_E_u8 0x34), ([0x1F], .rra)]

theorem test_decode_base_0 : (rows_base_0.map fun p => reads p.1) = rows_base_0.map fun p => some p.2 := by rfl

def rows_base_1 : List (List Byte × Instr) :=
  [([0x20, 0x34], .jr_NZ_i8 0x34), ([0x21, 0x34, 0x12], .ld_HL_u16 0x1234), ([0x22], .ld_mHLinc_A), ([0x23], .inc_HL),
   ([0x24], .inc_H), ([0x25], .dec_H), ([0x26, 0x34], .ld_H_u8 0x34), ([0x27], .daa), ([0x28, 0x34], .jr_Z_i8 0x34),
   ([0x29], .add_HL_HL), ([0x2A], .ld_A_mHLinc), ([0x2B], .dec_HL), ([0x2C], .inc_L), ([0x2D], .dec_L),
   ([0x2E, 0x34], .ld_L_u8 0x34), ([0x2F], .cpl), ([0x30, 0x34], .jr_NC_i8 0x34), ([0x31, 0x34, 0x12], .ld_SP_u16 0x1234),
   ([0x32], .ld_mHLdec_A), ([0x33], .inc_SP), ([0x34], .inc_mHL), ([0x35], .dec_mHL), ([0x36, 0x34], .ld_mHL_u8 0x34),
   ([0x37], .scf), ([0x38, 0x34], .jr_C_i8 0x34), ([0x39], .add_HL_SP), ([0x3A], .ld_A_mHLdec), ([0x3B], .dec_SP),
   ([0x3C], .inc_A), ([0x3D], .dec_A), ([0x3E, 0x34], .ld_A_u8 0x34), ([0x3F], .ccf)]

theorem test_decode_base_1 : (rows_base_1.map fun p => reads p.1) = rows_base_1.map fun p => some p.2 := by rfl

def rows_base_2 : List (List Byte × Instr) :=
  [([0x40], .ld_B_B), ([0x41], .ld_B_C), ([0x42], .ld_B_D), ([0x43], .ld_B_E), ([0x44], .ld_B_H), ([0x45], .ld_B_L),
   ([0x46], .ld_B_mHL), ([0x47], .ld_B_A), ([0x48], .ld_C_B), ([0x49], .ld_C_C), ([0x4A], .ld_C_D), ([0x4B], .ld_C_E),
   ([0x4C], .ld_C_H), ([0x4D], .ld_C_L), ([0x4E], .ld_C_mHL), ([0x4F], .ld_C_A), ([0x50], .ld_D_B), ([0x51], .ld_D_C),
   ([0x52], .ld_D_D), ([0x53], .ld_D_E), ([0x54], .ld_D_H), ([0x55], .ld_D_L), ([0x56], .ld_D_mHL), ([0x57], .ld_D_A),
   ([0x58], .ld_E_B), ([0x59], .ld_E_C), ([0x5A], .ld_E_D), ([0x5B], .ld_E_E), ([0x5C], .ld_E_H), ([0x5D], .ld_E_L),
   ([0x5E], .ld_E_mHL), ([0x5F], .ld_E_A)]

theorem test_decode_base_2 : (rows_base_2.map fun p => reads p.1) = rows_base_2.map fun p => some p.2 := by rfl

def rows_base_3 : List (List Byte × Instr) :=
  [([0x60], .ld_H_B), ([0x61], .ld_H_C), ([0x62], .ld_H_D), ([0x63], .ld_H_E), ([0x64], .ld_H_H), ([0x65], .ld_H_L),
   ([0x66], .ld_H_mHL), ([0x67], .ld_H_A), ([0x68], .ld_L_B), ([0x69], .ld_L_C), ([0x6A], .ld_L_D), ([0x6B], .ld_L_E),
   ([0x6C], .ld_L_H), ([0x6D], .ld_L_L), ([0x6E], .ld_L_mHL), ([0x6F], .ld_L_A), ([0x70], .ld_mHL_B), ([0x71], .ld_mHL_C),
   ([0x72], .ld_mHL_D), ([0x73], .ld_mHL_E), ([0x74], .ld_mHL_H), ([0x75], .ld_mHL_L), ([0x76], .halt),
   ([0x77], .ld_mHL_A), ([0x78], .ld_A_B), ([0x79], .ld_A_C), ([0x7A], .ld_A_D), ([0x7B], .ld_A_E), ([0x7C], .ld_A_H),
   ([0x7D], .ld_A_L), ([0x7E], .ld_A_mHL), ([0x7F], .ld_A_A)]

theorem test_decode_base_3 : (rows_base_3.map fun p => reads p.1) = rows_base_3.map fun p => some p.2 := by rfl

def rows_base_4 : List (List Byte × Instr) :=
  [([0x80], .add_A_B), ([0x81], .add_A_C), ([0x82], .add_A_D), ([0x83], .add_A_E), ([0x84], .add_A_H), ([0x85], .add_A_L),
   ([0x86], .add_A_mHL), ([0x87], .add_A_A), ([0x88], .adc_A_B), ([0x89], .adc_A_C), ([0x8A], .adc_A_D),
   ([0x8B], .adc_A_E), ([0x8C], .adc_A_H), ([0x8D], .adc_A_L), ([0x8E], .adc_A_mHL), ([0x8F], .adc_A_A), ([0x90], .sub_B),
   ([0x91], .sub_C), ([0x92], .sub_D), ([0x93], .sub_E), ([0x94], .sub_H), ([0x95], .sub_L), ([0x96], .sub_mHL),
   ([0x97], .sub_A), ([0x98], .sbc_A_B), ([0x99], .sbc_A_C), ([0x9A], .sbc_A_D), ([0x9B], .sbc_A_E), ([0x9C], .sbc_A_H),
   ([0x9D], .sbc_A_L), ([0x9E], .sbc_A_mHL), ([0x9F], .sbc_A_A)]

theorem test_decode_base_4 : (rows_base_4.map fun p => reads p.1) = rows_base_4.map fun p => some p.2 := by rfl

def rows_base_5 : List (List Byte × Instr) :=
  [([0xA0], .and_B), ([0xA1], .and_C), ([0xA2], .and_D), ([0xA3], .and_E), ([0xA4], .and_H), ([0xA5], .and_L),
   ([0xA6], .and_mHL), ([0xA7], .and_A), ([0xA8], .xor_B), ([0xA9], .xor_C), ([0xAA], .xor_D), ([0xAB], .xor_E),
   ([0xAC], .xor_H), ([0xAD], .xor_L), ([0xAE], .xor_mHL), ([0xAF], .xor_A), ([0xB0], .or_B), ([0xB1], .or_C),
   ([0xB2], .or_D), ([0xB3], .or_E), ([0xB4], .or_H), ([0xB5], .or_L), ([0xB6], .or_mHL), ([0xB7], .or_A), ([0xB8], .cp_B),
   ([0xB9], .cp_C), ([0xBA], .cp_D), ([0xBB], .cp_E), ([0xBC], .cp_H), ([0xBD], .cp_L), ([0xBE], .cp_mHL), ([0xBF], .cp_A)]

theorem test_decode_base_5 : (rows_base_5.map fun p => reads p.1) = rows_base_5.map fun p => some p.2 := by rfl

def rows_base_6 : List (List Byte × Instr) :=
  [([0xC0], .ret_NZ), ([0xC1], .pop_BC), ([0xC2, 0x34, 0x12], .jp_NZ_u16 0x1234), ([0xC3, 0x34, 0x12], .jp_u16 0x1234),
   ([0xC4, 0x34, 0x12], .call_NZ_u16 0x1234), ([0xC5], .push_BC), ([0xC6, 0x34], .add_A_u8 0x34), ([0xC7], .rst_00),
   ([0xC8], .ret_Z), ([0xC9], .ret), ([0xCA, 0x34, 0x12], .jp_Z_u16 0x1234), ([0xCC, 0x34, 0x12], .call_Z_u16 0x1234),
   ([0xCD, 0x34, 0x12], .call_u16 0x1234), ([0xCE, 0x34], .adc_A_u8 0x34), ([0xCF], .rst_08), ([0xD0], .ret_NC),
   ([0xD1], .pop_DE), ([0xD2, 0x34, 0x12], .jp_NC_u16 0x1234), ([0xD3], .unused_D3),
   ([0xD4, 0x34, 0x12], .call_NC_u16 0x1234), ([0xD5], .push_DE), ([0xD6, 0x34], .sub_u8 0x34), ([0xD7], .rst_10),
   ([0xD8], .ret_C), ([0xD9], .reti), ([0xDA, 0x34, 0x12], .jp_C_u16 0x1234), ([0xDB], .unused_DB),
   ([0xDC, 0x34, 0x12], .call_C_u16 0x1234), ([0xDD], .unused_DD), ([0xDE, 0x34], .sbc_A_u8 0x34), ([0xDF], .rst_18),
   ([0xE0, 0x34], .ldh_mU8_A 0x34)]

theorem test_decode_base_6 : (rows_base_6.map fun p => reads p.1) = rows_base_6.map fun p => some p.2 := by rfl

def rows_base_7 : List (List Byte × Instr) :=
  [([0xE1], .pop_HL), ([0xE2], .ld_mC_A), ([0xE3], .unused_E3), ([0xE4], .unused_E4), ([0xE5], .push_HL),
   ([0xE6, 0x34], .and_u8 0x34), ([0xE7], .rst_20), ([0xE8, 0x34], .add_SP_i8 0x34), ([0xE9], .jp_HL),
   ([0xEA, 0x34, 0x12], .ld_mU16_A 0x1234), ([0xEB], .unused_EB), ([0xEC], .unused_EC), ([0xED], .unused_ED),
   ([0xEE, 0x34], .xor_u8 0x34), ([0xEF], .rst_28), ([0xF0, 0x34], .ldh_A_mU8 0x34), ([0xF1], .pop_AF), ([0xF2], .ld_A_mC),
   ([0xF3], .di), ([0xF4], .unused_F4), ([0xF5], .push_AF), ([0xF6, 0x34], .or_u8 0x34), ([0xF7], .rst_30),
   ([0xF8, 0x34], .ld_HL_SPi8 0x34), ([0xF9], .ld_SP_HL), ([0xFA, 0x34, 0x12], .ld_A_mU16 0x1234), ([0xFB], .ei),
   ([0xFC], .unused_FC), ([0xFD], .unused_FD), ([0xFE, 0x34], .cp_u8 0x34), ([0xFF], .rst_38)]

theorem test_decode_base_7 : (rows_base_7.map fun p => reads p.1) = rows_base_7.map fun p => some p.2 := by rfl

def rows_cb_0 : List (List Byte × Instr) :=
  [([0xCB, 0x00], .rlc_B), ([0xCB, 0x01], .rlc_C), ([0xCB, 0x02], .rlc_D), ([0xCB, 0x03], .rlc_E), ([0xCB, 0x04], .rlc_H),
   ([0xCB, 0x05], .rlc_L), ([0xCB, 0x06], .rlc_mHL), ([0xCB, 0x07], .rlc_A), ([0xCB, 0x08], .rrc_B),
   ([0xCB, 0x09], .rrc_C), ([0xCB, 0x0A], .rrc_D), ([0xCB, 0x0B], .rrc_E), ([0xCB, 0x0C], .rrc_H), ([0xCB, 0x0D], .rrc_L),
   ([0xCB, 0x0E], .rrc_mHL), ([0xCB, 0x0F], .rrc_A), ([0xCB, 0x10], .rl_B), ([0xCB, 0x11], .rl_C), ([0xCB, 0x12], .rl_D),
   ([0xCB, 0x13], .rl_E), ([0xCB, 0x14], .rl_H), ([0xCB, 0x15], .rl_L), ([0xCB, 0x16], .rl_mHL), ([0xCB, 0x17], .rl_A),
   ([0xCB, 0x18], .rr_B), ([0xCB, 0x19], .rr_C), ([0xCB, 0x1A], .rr_D), ([0xCB, 0x1B], .rr_E), ([0xCB, 0x1C], .rr_H),
   ([0xCB, 0x1D], .rr_L), ([0xCB, 0x1E], .rr_mHL), ([0xCB, 0x1F], .rr_A)]

theorem test_decode_cb_0 : (rows_cb_0.map fun p => reads p.1) = rows_cb_0.map fun p => some p.2 := by rfl

def rows_cb_1 : List (List Byte × Instr) :=
  [([0xCB, 0x20], .sla_B), ([0xCB, 0x21], .sla_C), ([0xCB, 0x22], .sla_D), ([0xCB, 0x23], .sla_E), ([0xCB, 0x24], .sla_H),
   ([0xCB, 0x25], .sla_L), ([0xCB, 0x26], .sla_mHL), ([0xCB, 0x27], .sla_A), ([0xCB, 0x28], .sra_B),
   ([0xCB, 0x29], .sra_C), ([0xCB, 0x2A], .sra_D), ([0xCB, 0x2B], .sra_E), ([0xCB, 0x2C], .sra_H), ([0xCB, 0x2D], .sra_L),
   ([0xCB, 0x2E], .sra_mHL), ([0xCB, 0x2F], .sra_A), ([0xCB, 0x30], .swap_B), ([0xCB, 0x31], .swap_C),
   ([0xCB, 0x32], .swap_D), ([0xCB, 0x33], .swap_E), ([0xCB, 0x34], .swap_H), ([0xCB, 0x35], .swap_L),
   ([0xCB, 0x36], .swap_mHL), ([0xCB, 0x37], .swap_A), ([0xCB, 0x38], .srl_B), ([0xCB, 0x39], .srl_C),
   ([0xCB, 0x3A], .srl_D), ([0xCB, 0x3B], .srl_E), ([0xCB, 0x3C], .srl_H), ([0xCB, 0x3D], .srl_L),
   ([0xCB, 0x3E], .srl_mHL), ([0xCB, 0x3F], .srl_A)]

theorem test_decode_cb_1 : (rows_cb_1.map fun p => reads p.1) = rows_cb_1.map fun p => some p.2 := by rfl

def rows_cb_2 : List (List Byte × Instr) :=
  [([0xCB, 0x40], .bit_0_B), ([0xCB, 0x41], .bit_0_C), ([0xCB, 0x42], .bit_0_D), ([0xCB, 0x43], .bit_0_E),
   ([0xCB, 0x44], .bit_0_H), ([0xCB, 0x45], .bit_0_L), ([0xCB, 0x46], .bit_0_mHL), ([0xCB, 0x47], .bit_0_A),
   ([0xCB, 0x48], .bit_1_B), ([0xCB, 0x49], .bit_1_C), ([0xCB, 0x4A], .bit_1_D), ([0xCB, 0x4B], .bit_1_E),
   ([0xCB, 0x4C], .bit_1_H), ([0xCB, 0x4D], .bit_1_L), ([0xCB, 0x4E], .bit_1_mHL), ([0xCB, 0x4F], .bit_1_A),
   ([0xCB, 0x50], .bit_2_B), ([0xCB, 0x51], .bit_2_C), ([0xCB, 0x52], .bit_2_D), ([0xCB, 0x53], .bit_2_E),
   ([0xCB, 0x54], .bit_2_H), ([0xCB, 0x55], .bit_2_L), ([0xCB, 0x56], .bit_2_mHL), ([0xCB, 0x57], .bit_2_A),
   ([0xCB, 0x58], .bit_3_B), ([0xCB, 0x59], .bit_3_C), ([0xCB, 0x5A], .bit_3_D), ([0xCB, 0x5B], .bit_3_E),
   ([0xCB, 0x5C], .bit_3_H), ([0xCB, 0x5D], .bit_3_L), ([0xCB, 0x5E], .bit_3_mHL), ([0xCB, 0x5F], .bit_3_A)]

theorem test_decode_cb_2 : (rows_cb_2.map fun p => reads p.1) = rows_cb_2.map fun p => some p.2 := by rfl

def rows_cb_3 : List (List Byte × Instr) :=
  [([0xCB, 0x60], .bit_4_B), ([0xCB, 0x61], .bit_4_C), ([0xCB, 0x62], .bit_4_D), ([0xCB, 0x63], .bit_4_E),
   ([0xCB, 0x64], .bit_4_H), ([0xCB, 0x65], .bit_4_L), ([0xCB, 0x66], .bit_4_mHL), ([0xCB, 0x67], .bit_4_A),
   ([0xCB, 0x68], .bit_5_B), ([0xCB, 0x69], .bit_5_C), ([0xCB, 0x6A], .bit_5_D), ([0xCB, 0x6B], .bit_5_E),
   ([0xCB, 0x6C], .bit_5_H), ([0xCB, 0x6D], .bit_5_L), ([0xCB, 0x6E], .bit_5_mHL), ([0xCB, 0x6F], .bit_5_A),
   ([0xCB, 0x70], .bit_6_B), ([0xCB, 0x71], .bit_6_C), ([0xCB, 0x72], .bit_6_D), ([0xCB, 0x73], .bit_6_E),
   ([0xCB, 0x74], .bit_6_H), ([0xCB, 0x75], .bit_6_L), ([0xCB, 0x76], .bit_6_mHL), ([0xCB, 0x77], .bit_6_A),
   ([0xCB, 0x78], .bit_7_B), ([0xCB, 0x79], .bit_7_C), ([0xCB, 0x7A], .bit_7_D), ([0xCB, 0x7B], .bit_7_E),
   ([0xCB, 0x7C], .bit_7_H), ([0xCB, 0x7D], .bit_7_L), ([0xCB, 0x7E], .bit_7_mHL), ([0xCB, 0x7F], .bit_7_A)]

theorem test_decode_cb_3 : (rows_cb_3.map fun p => reads p.1) = rows_cb_3.map fun p => some p.2 := by rfl

def rows_cb_4 : List (List Byte × Instr) :=
  [([0xCB, 0x80], .res_0_B), ([0xCB, 0x81], .res_0_C), ([0xCB, 0x82], .res_0_D), ([0xCB, 0x83], .res_0_E),
   ([0xCB, 0x84], .res_0_H), ([0xCB, 0x85], .res_0_L), ([0xCB, 0x86], .res_0_mHL), ([0xCB, 0x87], .res_0_A),
   ([0xCB, 0x88], .res_1_B), ([0xCB, 0x89], .res_1_C), ([0xCB, 0x8A], .res_1_D), ([0xCB, 0x8B], .res_1_E),
   ([0xCB, 0x8C], .res_1_H), ([0xCB, 0x8D], .res_1_L), ([0xCB, 0x8E], .res_1_mHL), ([0xCB, 0x8F], .res_1_A),
   ([0xCB, 0x90], .res_2_B), ([0xCB, 0x91], .res_2_C), ([0xCB, 0x92], .res_2_D), ([0xCB, 0x93], .res_2_E),
   ([0xCB, 0x94], .res_2_H), ([0xCB, 0x95], .res_2_L), ([0xCB, 0x96], .res_2_mHL), ([0xCB, 0x97], .res_2_A),
   ([0xCB, 0x98], .res_3_B), ([0xCB, 0x99], .res_3_C), ([0xCB, 0x9A], .res_3_D), ([0xCB, 0x9B], .res_3_E),
   ([0xCB, 0x9C], .res_3_H), ([0xCB, 0x9D], .res_3_L), ([0xCB, 0x9E], .res_3_mHL), ([0xCB, 0x9F], .res_3_A)]

theorem test_decode_cb_4 : (rows_cb_4.map fun p => reads p.1) = rows_cb_4.map fun p => some p.2 := by rfl

def rows_cb_5 : List (List Byte × Instr) :=
  [([0xCB, 0xA0], .res_4_B), ([0xCB, 0xA1], .res_4_C), ([0xCB, 0xA2], .res_4_D), ([0xCB, 0xA3], .res_4_E),
   ([0xCB, 0xA4], .res_4_H), ([0xCB, 0xA5], .res_4_L), ([0xCB, 0xA6], .res_4_mHL), ([0xCB, 0xA7], .res_4_A),
   ([0xCB, 0xA8], .res_5_B), ([0xCB, 0xA9], .res_5_C), ([0xCB, 0xAA], .res_5_D), ([0xCB, 0xAB], .res_5_E),
   ([0xCB, 0xAC], .res_5_H), ([0xCB, 0xAD], .res_5_L), ([0xCB, 0xAE], .res_5_mHL), ([0xCB, 0xAF], .res_5_A),
   ([0xCB, 0xB0], .res_6_B), ([0xCB, 0xB1], .res_6_C), ([0xCB, 0xB2], .res_6_D), ([0xCB, 0xB3], .res_6_E),
   ([0xCB, 0xB4], .res_6_H), ([0xCB, 0xB5], .res_6_L), ([0xCB, 0xB6], .res_6_mHL), ([0xCB, 0xB7], .res_6_A),
   ([0xCB, 0xB8], .res_7_B), ([0xCB, 0xB9], .res_7_C), ([0xCB, 0xBA], .res_7_D), ([0xCB, 0xBB], .res_7_E),
   ([0xCB, 0xBC], .res_7_H), ([0xCB, 0xBD], .res_7_L), ([0xCB, 0xBE], .res_7_mHL), ([0xCB, 0xBF], .res_7_A)]

theorem test_decode_cb_5 : (rows_cb_5.map fun p => reads p.1) = rows_cb_5.map fun p => some p.2 := by rfl

def rows_cb_6 : List (List Byte × Instr) :=
  [([0xCB, 0xC0], .set_0_B), ([0xCB, 0xC1], .set_0_C), ([0xCB, 0xC2], .set_0_D), ([0xCB, 0xC3], .set_0_E),
   ([0xCB, 0xC4], .set_0_H), ([0xCB, 0xC5], .set_0_L), ([0xCB, 0xC6], .set_0_mHL), ([0xCB, 0xC7], .set_0_A),
   ([0xCB, 0xC8], .set_1_B), ([0xCB, 0xC9], .set_1_C), ([0xCB, 0xCA], .set_1_D), ([0xCB, 0xCB], .set_1_E),
   ([0xCB, 0xCC], .set_1_H), ([0xCB, 0xCD], .set_1_L), ([0xCB, 0xCE], .set_1_mHL), ([0xCB, 0xCF], .set_1_A),
   ([0xCB, 0xD0], .set_2_B), ([0xCB, 0xD1], .set_2_C), ([0xCB, 0xD2], .set_2_D), ([0xCB, 0xD3], .set_2_E),
   ([0xCB, 0xD4], .set_2_H), ([0xCB, 0xD5], .set_2_L), ([0xCB, 0xD6], .set_2_mHL), ([0xCB, 0xD7], .set_2_A),
   ([0xCB, 0xD8], .set_3_B), ([0xCB, 0xD9], .set_3_C), ([0xCB, 0xDA], .set_3_D), ([0xCB, 0xDB], .set_3_E),
   ([0xCB, 0xDC], .set_3_H), ([0xCB, 0xDD], .set_3_L), ([0xCB, 0xDE], .set_3_mHL), ([0xCB, 0xDF], .set_3_A)]

theorem test_decode_cb_6 : (rows_cb_6.map fun p => reads p.1) = rows_cb_6.map fun p => some p.2 := by rfl

def rows_cb_7 : List (List Byte × Instr) :=
  [([0xCB, 0xE0], .set_4_B), ([0xCB, 0xE1], .set_4_C), ([0xCB, 0xE2], .set_4_D), ([0xCB, 0xE3], .set_4_E),
   ([0xCB, 0xE4], .set_4_H), ([0xCB, 0xE5], .set_4_L), ([0xCB, 0xE6], .set_4_mHL), ([0xCB, 0xE7], .set_4_A),
   ([0xCB, 0xE8], .set_5_B), ([0xCB, 0xE9], .set_5_C), ([0xCB, 0xEA], .set_5_D), ([0xCB, 0xEB], .set_5_E),
   ([0xCB, 0xEC], .set_5_H), ([0xCB, 0xED], .set_5_L), ([0xCB, 0xEE], .set_5_mHL), ([0xCB, 0xEF], .set_5_A),
   ([0xCB, 0xF0], .set_6_B), ([0xCB, 0xF1], .set_6_C), ([0xCB, 0xF2], .set_6_D), ([0xCB, 0xF3], .set_6_E),
   ([0xCB, 0xF4], .set_6_H), ([0xCB, 0xF5], .set_6_L), ([0xCB, 0xF6], .set_6_mHL), ([0xCB, 0xF7], .set_6_A),
   ([0xCB, 0xF8], .set_7_B), ([0xCB, 0xF9], .set_7_C), ([0xCB, 0xFA], .set_7_D), ([0xCB, 0xFB], .set_7_E),
   ([0xCB, 0xFC], .set_7_H), ([0xCB, 0xFD], .set_7_L), ([0xCB, 0xFE], .set_7_mHL), ([0xCB, 0xFF], .set_7_A)]

theorem test_decode_cb_7 : (rows_cb_7.map fun p => reads p.1) = rows_cb_7.map fun p => some p.2 := by rfl
/-- Words written out bit by bit from the formats of 30_encoding.md, one or more per family. -/
def rows_bits : List (List Byte × Instr) :=
  [([0b01000001], .ld_B_C), ([0b00110110, 0x77], .ld_mHL_u8 0x77), ([0b00100001, 0x34, 0x12], .ld_HL_u16 0x1234),
   ([0b11110101], .push_AF), ([0b10001110], .adc_A_mHL), ([0b11111110, 0x40], .cp_u8 0x40), ([0b00111001], .add_HL_SP),
   ([0b00010111], .rla), ([0b11001011, 0b00110110], .swap_mHL), ([0b11001011, 0b01011110], .bit_3_mHL),
   ([0b11001011, 0b10000111], .res_0_A), ([0b11001011, 0b11111000], .set_7_B), ([0b00111000, 0xFC], .jr_C_i8 0xFC),
   ([0b11010100, 0x00, 0x30], .call_NC_u16 0x3000), ([0b11101111], .rst_28), ([0b01110110], .halt), ([0b11110011], .di)]

theorem test_decode_bits : (rows_bits.map fun p => reads p.1) = rows_bits.map fun p => some p.2 := by rfl

theorem test_decode_refuses_a_cut_instruction : [[], [0x01, 0x34], [0xCB], [0x10]].map reads = [none, none, none, none] := by rfl

theorem test_decode_gives_the_rest_back : decode [0x3E, 0x07, 0x76] = .ok (.ld_A_u8 0x07, [0x76]) := by rfl

/-- The table numbers a CB row 0xCBxx (log 14). -/
theorem test_table_words : decodeTableWord 16 0xCB36 = some .swap_mHL ∧ decodeTableWord 8 0x76 = some .halt := by decide

/-! ### Single steps (spec/95_test_vectors.md) -/

/-- The start of the vectors: reset, with F clear and the code at 0x0150. -/
def at0150 (code : List Byte) (s : State) : State :=
  placeCode code 0x0150 { s with pc := 0x0150 }

/-- Reset with F clear. -/
def clean : State := { State.reset with f := 0x00 }

/-- What a next state holds. -/
def got {α : Type} (o : Out) (view : State → α) : Option α :=
  match o with
  | .next t => some (view t)
  | _ => none

/-- V-LD-7. -/
theorem test_store_at_ffff_writes_ie_and_wraps_hl :
    got (step (at0150 [0x22] { clean with h := 0xFF, l := 0xFF, a := 0x1F })) (fun t => (t.ie, t.h, t.l, t.pc, t.cycles)) =
      some (0x1F, 0x00, 0x00, 0x0151, 2) := by rfl

/-- V-LD-9. -/
theorem test_store_sp_low_byte_first :
    got (step (at0150 [0x08, 0x00, 0xC1] { clean with sp := 0xFFF8 })) (fun t => (t.mem, t.pc, t.cycles)) =
      some ([(0xC100, 0xF8), (0xC101, 0xFF)], 0x0153, 5) := by rfl

/-- V-LD-10, its second Step. -/
theorem test_pop_af_masks_f :
    got (step (at0150 [0xF1] { clean with sp := 0xCFFE, mem := [(0xCFFE, 0xFF), (0xCFFF, 0x12)] }))
      (fun t => (t.a, t.f, t.sp, t.cycles)) = some (0x12, 0xF0, 0xD000, 3) := by rfl

/-- V-ALU-3. -/
theorem test_adc_carry_in_reaches_c :
    got (step (at0150 [0xCE, 0xFF] { clean with a := 0x00, f := 0x10 })) (fun t => (t.a, t.f, t.cycles)) =
      some (0x00, 0xB0, 2) := by rfl

/-- V-ALU-6. -/
theorem test_sbc_borrow_in :
    got (step (at0150 [0xDE, 0x00] { clean with a := 0x10, f := 0x10 })) (fun t => (t.a, t.f, t.cycles)) =
      some (0x0F, 0x60, 2) := by rfl

/-- V-ALU-12. -/
theorem test_inc_memory_keeps_c :
    got (step (at0150 [0x34] { clean with h := 0xC0, l := 0x00, f := 0x10, mem := [(0xC000, 0xFF)] }))
      (fun t => (t.mem, t.f, t.cycles)) = some ([], 0xB0, 3) := by rfl

/-- V-ALU-15. -/
theorem test_daa_after_subtraction :
    got (step (at0150 [0x27] { clean with a := 0x0F, f := 0x60 })) (fun t => (t.a, t.f, t.cycles)) =
      some (0x09, 0x40, 1) := by rfl

/-- V-ALU-16. -/
theorem test_daa_after_addition :
    got (step (at0150 [0x27] { clean with a := 0x9A })) (fun t => (t.a, t.f, t.cycles)) = some (0x00, 0x90, 1) := by rfl

/-- V-A16-1. -/
theorem test_add_hl_half_carry_from_bit_11 :
    got (step (at0150 [0x19] { clean with h := 0x0F, l := 0xFF, d := 0x00, e := 0x01, f := 0x80 }))
      (fun t => (t.h, t.l, t.f, t.cycles)) = some (0x10, 0x00, 0xA0, 2) := by rfl

/-- V-A16-5. -/
theorem test_add_sp_minus_one :
    got (step (at0150 [0xE8, 0xFF] { clean with sp := 0x0001 })) (fun t => (t.sp, t.f, t.cycles)) =
      some (0x0000, 0x30, 4) := by rfl

/-- V-ROT-2. -/
theorem test_rra_forces_z :
    got (step (at0150 [0x1F] { clean with a := 0x01 })) (fun t => (t.a, t.f, t.cycles)) = some (0x00, 0x10, 1) := by rfl

/-- V-ROT-6. -/
theorem test_sra_keeps_the_sign :
    got (step (at0150 [0xCB, 0x28] { clean with b := 0x81 })) (fun t => (t.b, t.f, t.pc, t.cycles)) =
      some (0xC0, 0x10, 0x0152, 2) := by rfl

/-- V-ROT-9. -/
theorem test_bit_keeps_c :
    got (step (at0150 [0xCB, 0x5E] { clean with h := 0xC0, l := 0x00, f := 0x10 })) (fun t => (t.mem, t.f, t.cycles)) =
      some ([], 0xB0, 3) := by rfl

/-- V-CT-3. -/
theorem test_jr_backwards :
    got (step (at0150 [0x18, 0x80] clean)) (fun t => (t.pc, t.cycles)) = some (0x00D2, 3) := by rfl

/-- V-CT-5 and V-CY: a condition that fails costs the base count. -/
theorem test_call_not_taken :
    got (step (at0150 [0xCC, 0x00, 0x30] { clean with sp := 0xD000 })) (fun t => (t.pc, t.sp, t.cycles)) =
      some (0x0153, 0xD000, 3) := by rfl

/-- V-CT-6. -/
theorem test_call_pushes_the_next_address :
    got (step (at0150 [0xCD, 0x00, 0x30] { clean with sp := 0xD000 })) (fun t => (t.pc, t.sp, t.mem, t.cycles)) =
      some (0x3000, 0xCFFE, [(0xCFFE, 0x53), (0xCFFF, 0x01)], 6) := by rfl

/-- V-CT-8. -/
theorem test_reti_sets_ime :
    got (step (at0150 [0xD9] { clean with sp := 0xCFFE, mem := [(0xCFFF, 0x02)] })) (fun t => (t.pc, t.sp, t.ime, t.cycles)) =
      some (0x0200, 0xD000, true, 4) := by rfl

/-- R337's corner case: under EI_DELAY = 1, EI with IME = 1 changes nothing. -/
theorem test_delayed_ei_with_ime_set :
    got (step (at0150 [0xFB] { clean with cfg := { Config.default with eiDelay := .oneInstruction }, ime := true }))
      (fun t => (t.ime, t.eiPending, t.pc, t.cycles)) = some (true, false, 0x0151, 1) := by rfl

/-- S10. -/
theorem test_halt_bug_rewinds :
    got (step (at0150 [0x76] { clean with ie := 0x01, ifr := 0x01 })) (fun t => (t.pc, t.halted, t.cycles)) =
      some (0x0150, false, 1) := by rfl

/-- V-HLT-1, its third Step. -/
theorem test_wake_without_dispatch :
    got (step (at0150 [0x3C] { State.reset with halted := true, ie := 0x04, ifr := 0x04 }))
      (fun t => (t.a, t.f, t.halted, t.ifr, t.cycles)) = some (0x02, 0x10, false, 0x04, 1) := by rfl

/-- V-SYS-8. -/
theorem test_dispatch_by_priority :
    got (step (at0150 [0x00] { clean with ime := true, ie := 0x1F, ifr := 0x18, sp := 0xD000 }))
      (fun t => (t.pc, t.sp, t.ifr, t.ime, t.mem, t.cycles)) =
      some (0x0058, 0xCFFE, 0x10, false, [(0xCFFE, 0x50), (0xCFFF, 0x01)], 5) := by rfl

/-- V-TM-10. -/
theorem test_timer_counts_after_the_write :
    got (step (at0150 [0xE0, 0x05] { clean with tac := 0x05, timerAccum := 15, a := 0x80 }))
      (fun t => (t.tima, t.timerAccum, t.cycles)) = some (0x81, 2, 3) := by rfl

/-- V-TM-3. -/
theorem test_timer_overflow_reloads :
    let t := advanceTimers 16 { clean with tac := 0x05, tima := 0xFF, tma := 0x80 }
    (t.tima, t.ifr, t.divAccum, t.timerAccum) = (0x80, 0x04, 16, 0) := by rfl

/-- V-TM-8. -/
theorem test_divider_wraps :
    let t := advanceTimers 1 { clean with divider := 0xFFFF, divAccum := 0xFF }
    (t.divider, t.divAccum) = (0x0000, 0) := by rfl

/-! ### The bank controller -/

/-- The 128 KiB MBC1 cartridge of S11, byte 0 of bank k = 0xB0 + k, with 32 KiB of RAM. -/
def mbc : State :=
  { clean with cart := {
      kind := .mbc1, romSize := 2, ramSize := .k32,
      rom := [(0x0000, 0xB0), (0x4000, 0xB1), (0x8000, 0xB2), (0xC000, 0xB3)] ++
        [(0x10000, 0xB4), (0x14000, 0xB5), (0x18000, 0xB6), (0x1C000, 0xB7)] } }

/-- S11. -/
theorem test_mbc_bank_five : readByte 0x4000 (store 0x2000 0x05 mbc) = 0xB5 := by rfl

/-- S12. -/
theorem test_mbc_bank_zero_is_one : readByte 0x4000 (store 0x2000 0x00 mbc) = 0xB1 := by rfl

/-- S13. -/
theorem test_mbc_ram_gate :
    readByte 0xA000 mbc = 0xFF ∧ readByte 0xA000 (store 0xA000 0x42 (store 0x0000 0x0A mbc)) = 0x42 ∧
      readByte 0xA000 (store 0x0000 0x00 (store 0xA000 0x42 (store 0x0000 0x0A mbc))) = 0xFF := by decide

/-- V-MEM-1. -/
theorem test_open_bus : readByte 0xE000 (store 0xE000 0x12 clean) = 0xFF ∧ readByte 0xC000 (store 0xE000 0x12 clean) = 0x00 := by
  decide

/-- V-MEM-3 on an MBC1 cartridge: a push across 0xFFFF writes IE and then the RAM enable. -/
theorem test_push_wraps_the_address_space :
    got (push16 0xABCD { mbc with sp := 0x0001, ramEnabled := true } .next) (fun t => (t.sp, t.ie, t.ramEnabled)) =
      some (0xFFFF, 0xCD, false) := by rfl

/-! ### Load -/

/-- R95 to R97: 128 KiB MBC1 with 8 KiB of RAM loads; a wrong length and an unknown type do not. -/
theorem test_load_cartridge :
    loadCartridge { bytes := [(0x0147, 0x02), (0x0148, 0x02), (0x0149, 0x02)], length := 0x20000 } =
      .ok { kind := .mbc1, romSize := 2, ramSize := .k8, rom := [(0x0147, 0x02), (0x0148, 0x02), (0x0149, 0x02)] } ∧
    loadCartridge { bytes := [(0x0147, 0x02), (0x0148, 0x02)], length := 0x8000 } = .error (.imageLength 0x8000) ∧
    loadCartridge { bytes := [(0x0147, 0x04)], length := 0x8000 } = .error (.cartridgeType 0x04) := ⟨rfl, rfl, rfl⟩

/-! ### Witnesses: a concrete state and operands that meet each obligation's hypotheses, each clause at its boundaries -/

/-- Nothing listed, UNMAPPED_POLICY = Fault. -/
def strict : State := { clean with cfg := { Config.default with unmappedPolicy := .fault } }

/-- Running from working RAM at 0xC000, SP at 0xD000. -/
def ramCode (code : List Byte) : State := placeCode code 0xC000 { clean with pc := 0xC000, sp := 0xD000 }

theorem reset_inv : Inv State.reset := by constructor <;> decide

theorem clean_inv : Inv clean := by constructor <;> decide

theorem mbc_inv : Inv mbc := by constructor <;> decide

theorem open_default (addr : Word) : open_ addr clean := rfl

/-- PowerOnSetsEveryField, and the first clause of ImageLoadsExactlyWhenTheHeaderIsKnown: the largest type, ROM and RAM codes. -/
theorem witness_PowerOnSetsEveryField :
    ∃ cart, loadCartridge { bytes := [(0x0147, 0x03), (0x0148, 0x08), (0x0149, 0x05)], length := 0x800000 } = .ok cart := ⟨_, rfl⟩

theorem witness_PowerOnMeetsTheInvariant :
    let img : Image := { bytes := [(0x0147, 0x03), (0x0149, 0x02), (0x7FFF, 0x11)], length := 0x8000 }
    ∃ s, powerOn Config.default img [(0x8000, 0x5A), (0xFFFE, 0x01)] [(0x1FFF, 0x77)] [] = .ok s ∧
      img.bytes.wf = true ∧ (img.bytes.keysIn fun k => decide (k < img.length)) = true ∧
      Memory.wf [(0x8000, 0x5A), (0xFFFE, 0x01)] = true ∧ Memory.keysIn plainKey [(0x8000, 0x5A), (0xFFFE, 0x01)] = true ∧
      Memory.wf [(0x1FFF, 0x77)] = true ∧
      (Memory.keysIn (fun k => decide (k < s.cart.ramSize.bytes)) [(0x1FFF, 0x77)]) = true :=
  ⟨_, rfl, by decide, by decide, by decide, by decide, by decide, by decide⟩

theorem witness_ImageLoadsExactlyWhenTheHeaderIsKnown :
    (∀ cart, loadCartridge { bytes := [(0x0147, 0x04)], length := 0x8000 } ≠ .ok cart) ∧
    (∀ cart, loadCartridge { bytes := [(0x0148, 0x09)], length := 0x1000000 } ≠ .ok cart) ∧
    (∀ cart, loadCartridge { bytes := [(0x0149, 0x01)], length := 0x8000 } ≠ .ok cart) ∧
    (∀ cart, loadCartridge { bytes := [(0x0149, 0x06)], length := 0x8000 } ≠ .ok cart) :=
  ⟨fun _ => nofun, fun _ => nofun, fun _ => nofun, fun _ => nofun⟩

theorem witness_OpcodesFollowTheFormats :
    (¬ (R8.mHL = .mHL ∧ R8.A = .mHL) ∧ ¬ (R8.B = .mHL ∧ R8.mHL = .mHL)) ∧
      (Instr.unused_FD, (0xFD : Byte)) ∈ [(Instr.ei, (0xFB : Byte)), (.unused_FD, 0xFD)] := by decide

theorem witness_DecodeOfEncodeIsTheInstruction :
    Instr.nop.wellFormed = true ∧ (Instr.call_u16 0xFFFF).wellFormed = true ∧ Instr.set_7_A.wellFormed = true := by decide

theorem witness_EveryByteSequenceDecodesAtItsLength :
    lengthOf 0xCB = .two ∧ lengthOf 0xFD = .one ∧ lengthOf 0x01 = .three := by decide

/-- The premises of AtInstruction, each as a fact that can be evaluated. -/
theorem atInstruction_of {i : Instr} {s : State} {rest : List Byte}
    (quiet : s.halted = false ∧ dispatchDue s = none ∧ s.haltBugPending = false)
    (decodes : decode [stored s.pc s, stored (s.pc + 1) s, stored (s.pc + 2) s] = .ok (i, rest))
    (fetchable : ∀ k, k < (encode i).length →
      faulting (s.pc + BitVec.ofNat 16 k) s = false ∧ drawn (s.pc + BitVec.ofNat 16 k) s = false) : AtInstruction i s where
  running := quiet.1
  undisturbed := quiet.2.1
  noHaltBug := quiet.2.2
  decodes := ⟨rest, decodes⟩
  fetchable := fetchable

theorem witness_StepRunsTheDecodedInstruction :
    AtInstruction .ld_B_C (ramCode [0x41]) ∧ AtInstruction (.jp_u16 0x1234) (ramCode [0xC3, 0x34, 0x12]) ∧
      AtInstruction .swap_A { ramCode [0xCB, 0x37] with cfg := { Config.default with unmappedPolicy := .fault } } :=
  ⟨atInstruction_of (by decide) (by rfl) (by decide), atInstruction_of (by decide) (by rfl) (by decide),
    atInstruction_of (by decide) (by rfl) (by decide)⟩

theorem witness_PlainStorageReadsBackAndStoresAreLocal :
    Inv clean ∧ ∀ a ∈ [(0x8000 : Word), 0x9FFF, 0xC000, 0xDFFF, 0xFF80, 0xFFFE],
      ((0x8000 ≤ a.toNat ∧ a.toNat ≤ 0x9FFF) ∨ (0xC000 ≤ a.toNat ∧ a.toNat ≤ 0xDFFF) ∨ (0xFF80 ≤ a.toNat ∧ a.toNat ≤ 0xFFFE)) ∧
        0x8000 ≤ a.toNat ∧ a + 1 ≠ a := ⟨clean_inv, by simp⟩

theorem witness_IoRegistersReadAndWrite :
    Inv clean ∧ clean.cfg.ioReadModel = .storage ∧
    Inv { clean with cfg := { Config.default with ioReadModel := .draw } } ∧
    ∀ a ∈ [(0xFF00 : Word), 0xFF03, 0xFF08, 0xFF0E, 0xFF10, 0xFF7F],
      0xFF00 ≤ a.toNat ∧ a.toNat ≤ 0xFF7F ∧ a ∉ [(0xFF04 : Word), 0xFF05, 0xFF06, 0xFF07, 0xFF0F] :=
  ⟨clean_inv, rfl, by constructor <;> decide, by simp⟩

theorem witness_UnmappedRangeIsOpenBusOrFault :
    clean.cfg.unmappedPolicy = .openBus ∧ strict.cfg.unmappedPolicy = .fault ∧
      ∀ a ∈ [(0xE000 : Word), 0xFEFF], 0xE000 ≤ a.toNat ∧ a.toNat ≤ 0xFEFF := ⟨rfl, rfl, by simp⟩

/-- Mbc1RegistersLatch and Mbc1RomWindowsFollowTheBanks: both ends of every register's and window's range. -/
theorem witness_Mbc1RegistersLatch :
    mbc.cart.kind = .mbc1 ∧ (∀ a ∈ [(0x0000 : Word), 0x1FFF], a.toNat ≤ 0x1FFF ∧ a.toNat ≤ 0x3FFF) ∧
      (∀ a ∈ [(0x2000 : Word), 0x3FFF], 0x2000 ≤ a.toNat ∧ a.toNat ≤ 0x3FFF) ∧
      (∀ a ∈ [(0x4000 : Word), 0x5FFF], 0x4000 ≤ a.toNat ∧ a.toNat ≤ 0x5FFF) ∧
      (∀ a ∈ [(0x6000 : Word), 0x7FFF], 0x6000 ≤ a.toNat ∧ a.toNat ≤ 0x7FFF ∧ 0x4000 ≤ a.toNat) :=
  ⟨rfl, by simp, by simp, by simp, by simp⟩

/-- V-MBC-5's shape: the largest bank registers in advanced mode reach bank 7 of 8 above and bank 0 below. -/
theorem witness_Mbc1RomWindowsFollowTheBanks :
    let s : State := { mbc with mode := .advanced, secondary := 3, primary := 31 }
    s.cart.kind = .mbc1 ∧ upperBank s = 7 ∧ lowerBank s = 0 := by decide

theorem witness_CartridgeRamFollowsEnableAndBank :
    Inv mbc ∧ mbc.cart.kind = .mbc1 ∧ mbc.ramEnabled = false ∧
    Inv { mbc with ramEnabled := true, mode := .advanced, secondary := 3, cartRam := [(0x7FFF, 0x42)] } ∧
    0 < mbc.cart.ramSize.bytes ∧
    (let absent : State := { mbc with ramEnabled := true, cart := { mbc.cart with ramSize := .none } }
     absent.cart.ramSize.bytes = 0 ∧ absent.cart.kind = .mbc1) ∧
    ∀ a ∈ [(0xA000 : Word), 0xBFFF], 0xA000 ≤ a.toNat ∧ a.toNat ≤ 0xBFFF :=
  ⟨mbc_inv, by decide, by decide, by constructor <;> decide, by decide, by decide, by simp⟩

theorem witness_RomOnlyCartridgeHasNoMapper :
    clean.cart.kind = .romOnly ∧ (∀ a ∈ [(0x0000 : Word), 0x7FFF], a.toNat ≤ 0x7FFF) ∧
      ∀ a ∈ [(0xA000 : Word), 0xBFFF], 0xA000 ≤ a.toNat ∧ a.toNat ≤ 0xBFFF :=
  ⟨rfl, by simp, by simp⟩

/-- The operand premise of LoadMovesOneByte, IncAndDecKeepCarry, CbRotatesAndShiftsRecomputeZ, BitTestsOneBit and
ResAndSetChangeOneBit: a register under Fault with HL in the unmapped range, the byte at HL under Fault at its edges. -/
theorem witness_LoadMovesOneByte :
    opndOpen .B { strict with h := 0xE0 } ∧ opndOpen .mHL { strict with h := 0xDF, l := 0xFF } ∧
      opndOpen .mHL { strict with h := 0xFF } ∧ opndOpen .mHL { clean with h := 0xE0 } ∧ ¬ (R8.B = .mHL ∧ R8.mHL = .mHL) :=
  ⟨nofun, fun _ => by rfl, fun _ => by rfl, fun _ => by rfl, by decide⟩

theorem witness_AccumulatorLoadsAndStores :
    (let s : State := { strict with b := 0xDF, c := 0xFF }
     (Instr.ld_A_mBC, Instr.ld_mBC_A, (0xDFFF : Word), 2) ∈ [(Instr.ld_A_mBC, Instr.ld_mBC_A, s.b ++ s.c, 2)] ∧ open_ 0xDFFF s) ∧
    (∃ nn : Word, (Instr.ld_A_mU16 0xFEFF, Instr.ld_mU16_A 0xFEFF, (0xFEFF : Word), 4) =
      (.ld_A_mU16 nn, .ld_mU16_A nn, nn, 4)) ∧ open_ 0xFEFF clean ∧
    (∃ n : Byte, (Instr.ldh_A_mU8 0xFF, Instr.ldh_mU8_A 0xFF, (0xFFFF : Word), 3) =
      (.ldh_A_mU8 n, .ldh_mU8_A n, 0xFF00 + n.setWidth 16, 3)) :=
  ⟨⟨by decide, by rfl⟩, ⟨0xFEFF, rfl⟩, by rfl, ⟨0xFF, by rfl⟩⟩

theorem witness_HlStepsAfterTheAccess : open_ (regHL { strict with h := 0xFF, l := 0xFF }) { strict with h := 0xFF, l := 0xFF } := by
  rfl

theorem witness_LoadPairImmediateAndSp : open_ (0xFFFF : Word) strict ∧ open_ ((0xFFFF : Word) + 1) strict := ⟨by rfl, by rfl⟩

/-- The stack premises of PushStoresThePair, PopLoadsThePair, CallsPushTheReturnAddress and ReturnsPopPc, under Fault too. -/
theorem witness_PushStoresThePair :
    pushOpen { strict with sp := 0xE000 } ∧ pushOpen { strict with sp := 0x0001 } ∧ pushOpen { clean with sp := 0xF000 } :=
  ⟨⟨by rfl, by rfl⟩, ⟨by rfl, by rfl⟩, ⟨by rfl, by rfl⟩⟩

theorem witness_PopLoadsThePair :
    popOpen { strict with sp := 0xDFFE } ∧ popOpen { strict with sp := 0xFFFF } ∧ popOpen { clean with sp := 0xE000 } :=
  ⟨⟨by rfl, by rfl⟩, ⟨by rfl, by rfl⟩, ⟨by rfl, by rfl⟩⟩

/-- Two instructions one after the other have a next state. -/
theorem returns {i j : Instr} {s t u : State} (first : exec i s = .next t) (second : exec j t = .next u) :
    ∃ t u, exec i s = .next t ∧ exec j t = .next u := ⟨t, u, first, second⟩

theorem witness_StackRoundTrips :
    let s : State := { clean with sp := 0xD000, b := 0x12, c := 0x34 }
    Inv s ∧ isPlain (s.sp - 2) = true ∧ isPlain (s.sp - 1) = true ∧ s.cfg.ioReadModel = .storage ∧
    (∃ t u, exec (pushRow .BC) s = .next t ∧ exec (popRow .BC) t = .next u) ∧
    (cond .NZ s = true ∧ ∃ t u, exec (callRow .NZ 0x3000) s = .next t ∧ exec .ret t = .next u) ∧
    (∃ t u, exec (.call_u16 0x3000) s = .next t ∧ exec .ret t = .next u) ∧
    ∃ t u, exec (rstRow .i7) s = .next t ∧ exec .ret t = .next u :=
  have hinv : Inv { clean with sp := 0xD000, b := 0x12, c := 0x34 } := by constructor <;> decide
  ⟨hinv, by decide, by decide, by rfl, returns rfl rfl, ⟨by decide, returns rfl rfl⟩, returns rfl rfl, returns rfl rfl⟩

/-- AddAndAdcCarryOut, with the carry-in and without, a register and (HL). -/
theorem witness_AddAndAdcCarryOut :
    let s : State := { strict with a := 0xFF, f := 0x10, h := 0xC0 }
    (∃ r, opndOpen r s ∧ (0x00 : Byte) = opnd r s ∧ s = afterOpnd r s ∧ 2 = byOperand r 1 2 ∧
      Instr.adc_A_mHL = aluRow .adc r ∧ 1 = if s.f.getLsbD 4 then 1 else 0) ∧
    (∃ r, opndOpen r s ∧ (0xFF : Byte) = opnd r s ∧ s = afterOpnd r s ∧ 1 = byOperand r 1 2 ∧ Instr.add_A_A = aluRow .add r) ∧
    (Instr.adc_A_u8 0xFF = .adc_A_u8 0xFF ∧ 0 = if clean.f.getLsbD 4 then 1 else 0) :=
  ⟨⟨.mHL, fun _ => by rfl, by rfl, by rfl, by rfl, by rfl, by decide⟩, ⟨.A, nofun, by rfl, by rfl, by rfl, by rfl⟩, rfl, by decide⟩

theorem witness_SubAndSbcBorrowOut :
    let s : State := { strict with a := 0x10, f := 0x10, h := 0xC0 }
    (∃ r, opndOpen r s ∧ (0x00 : Byte) = opnd r s ∧ s = afterOpnd r s ∧ 2 = byOperand r 1 2 ∧
      Instr.sbc_A_mHL = aluRow .sbc r ∧ 1 = if s.f.getLsbD 4 then 1 else 0) ∧
    ∃ r, opndOpen r s ∧ (0x10 : Byte) = opnd r s ∧ s = afterOpnd r s ∧ 1 = byOperand r 1 2 ∧ Instr.sub_A = aluRow .sub r :=
  ⟨⟨.mHL, fun _ => by rfl, by rfl, by rfl, by rfl, by rfl, by decide⟩, ⟨.A, nofun, by rfl, by rfl, by rfl, by rfl⟩⟩

/-- LogicSetsFixedFlags and CompareKeepsA. -/
theorem witness_LogicSetsFixedFlags :
    let s : State := { strict with a := 0x0F, h := 0xC0 }
    (∃ r, opndOpen r s ∧ (0x00 : Byte) = opnd r s ∧ s = afterOpnd r s ∧ 2 = byOperand r 1 2 ∧
      Instr.and_mHL = aluRow .and r ∧ (0x00 : Byte) = s.a &&& 0x00) ∧
    (∃ r, opndOpen r s ∧ (0x0F : Byte) = opnd r s ∧ s = afterOpnd r s ∧ 1 = byOperand r 1 2 ∧
      Instr.xor_A = aluRow .xor r ∧ (0x00 : Byte) = s.a ^^^ 0x0F) ∧
    ∃ r, opndOpen r s ∧ (0x00 : Byte) = opnd r s ∧ s = afterOpnd r s ∧ 2 = byOperand r 1 2 ∧ Instr.cp_mHL = aluRow .cp r :=
  ⟨⟨.mHL, fun _ => by rfl, by rfl, by rfl, by rfl, by rfl, by rfl⟩, ⟨.A, nofun, by rfl, by rfl, by rfl, by rfl, by rfl⟩,
    ⟨.mHL, fun _ => by rfl, by rfl, by rfl, by rfl, by rfl⟩⟩

/-- 99 + 99 with carry-in, from the byte at HL and as an immediate. -/
theorem witness_DaaCorrectsDecimalAddition :
    let s : State := { strict with a := 0x99, f := 0x10, h := 0xC0, l := 0x00, mem := [(0xC000, 0x99)] }
    s.a = BitVec.ofNat 8 (99 / 10 * 16 + 99 % 10) ∧ (0x99 : Byte) = BitVec.ofNat 8 (99 / 10 * 16 + 99 % 10) ∧
    1 = (if s.f.getLsbD 4 then 1 else 0) ∧
    (∃ r, (0x99 : Byte) = opnd r s ∧ Instr.adc_A_mHL = aluRow .adc r) ∧
    (∃ t u, exec .adc_A_mHL s = .next t ∧ exec .daa t = .next u) ∧
    ∃ t u, exec (.add_A_u8 0x99) s = .next t ∧ exec .daa t = .next u :=
  ⟨by rfl, by rfl, by rfl, ⟨.mHL, by rfl, by rfl⟩, ⟨_, _, rfl, rfl⟩, _, _, rfl, rfl⟩

theorem witness_AddHlCarriesFromBits11And15 :
    (R16.SP, (0xFFFE : Word)) ∈
      [(R16.BC, clean.b ++ clean.c), (.DE, clean.d ++ clean.e), (.HL, clean.h ++ clean.l), (.SP, clean.sp)] := by decide

theorem witness_IncAndDecPairWriteNoFlag :
    ((1 : Word) = 1 ∧ inc16Row = inc16Row) ∧ ((-1 : Word) = -1 ∧ dec16Row = dec16Row) := ⟨⟨rfl, rfl⟩, rfl, rfl⟩

theorem witness_CbRotatesAndShiftsRecomputeZ :
    let s : State := { strict with h := 0xC0, l := 0x00, mem := [(0xC000, 0xFF)] }
    let v := (opnd .mHL s).toNat
    let c := if s.f.getLsbD 4 then 1 else 0
    opndOpen .mHL s ∧ (ShiftOp.rl, 0xFE, true) ∈ [(ShiftOp.rl, 2 * v % 256 + c, decide (v ≥ 128))] :=
  ⟨fun _ => by rfl, by decide⟩

theorem witness_JumpsSetPc :
    (Cond.NZ, true) ∈
      [(Cond.NZ, !clean.f.getLsbD 7), (.Z, clean.f.getLsbD 7), (.NC, !clean.f.getLsbD 4), (.C, clean.f.getLsbD 4)] ∧
    (Cond.C, false) ∈
      [(Cond.NZ, !clean.f.getLsbD 7), (.Z, clean.f.getLsbD 7), (.NC, !clean.f.getLsbD 4), (.C, clean.f.getLsbD 4)] := by decide

/-- CallsPushTheReturnAddress and ReturnsPopPc: a condition that holds and one that fails, the stack open under Fault. -/
theorem witness_CallsPushTheReturnAddress :
    let s : State := { strict with sp := 0xD000 }
    pushOpen s ∧ popOpen s ∧ cond .NZ s = true ∧ cond .C s = false := ⟨⟨by rfl, by rfl⟩, ⟨by rfl, by rfl⟩, by decide, by decide⟩

theorem witness_NopAndUnusedDoNothing : Instr.nop ∈ [Instr.nop] ∧ Instr.unused_FD ∈ [Instr.unused_FC, .unused_FD] := by decide

theorem witness_StopFollowsStopMode :
    (State.reset.cfg.stopMode = .halt) ∧ ({ Config.default with stopMode := .noOp }.stopMode = .noOp) ∧
      ({ Config.default with stopMode := .stuck }.stopMode = .stuck) := by decide

theorem witness_HaltOrHaltBug :
    let s : State := { clean with ie := 0x10, ifr := 0x10 }
    (s.ime = false ∧ s.ie &&& s.ifr &&& 0x1F ≠ 0) ∧ s.cfg.haltBugMode = .rewind ∧
    ({ s.cfg with haltBugMode := .repeatNextByte }).haltBugMode = .repeatNextByte ∧
    ¬ (clean.ime = false ∧ clean.ie &&& clean.ifr &&& 0x1F ≠ 0) ∧
    (let u : State := { s with ie := 0xE0, ifr := 0xE0 }
     ¬ (u.ime = false ∧ u.ie &&& u.ifr &&& 0x1F ≠ 0)) := by decide

theorem witness_DiAndEiWriteIme :
    let s : State := { clean with cfg := { Config.default with eiDelay := .oneInstruction } }
    clean.cfg.eiDelay = .none ∧ s.cfg.eiDelay = .oneInstruction ∧ s.ime = false ∧ ({ s with ime := true }).ime = true := by decide

theorem witness_PrefixSlotRunsTheCbInstruction :
    let s : State := { strict with pc := 0xC000, h := 0xDF }
    open_ s.pc s ∧ open_ (regHL s) s := ⟨by rfl, by rfl⟩

/-- The highest and the lowest source, under Fault with the stack in working RAM. -/
theorem witness_DispatchTakesTheLowestRequest :
    let s : State := { strict with ime := true, ie := 0xFF, ifr := 0xF0, sp := 0xE000 }
    let u : State := { s with ifr := 0xFF }
    ((4, (0x0060 : Word)) ∈ [(0, (0x0040 : Word)), (1, 0x0048), (2, 0x0050), (3, 0x0058), (4, 0x0060)] ∧ s.ime = true ∧
      (s.ie &&& s.ifr).getLsbD 4 = true ∧ (∀ j, j < 4 → (s.ie &&& s.ifr).getLsbD j = false) ∧ pushOpen s) ∧
    ((0, (0x0040 : Word)) ∈ [(0, (0x0040 : Word)), (1, 0x0048), (2, 0x0050), (3, 0x0058), (4, 0x0060)] ∧ u.ime = true ∧
      (u.ie &&& u.ifr).getLsbD 0 = true ∧ (∀ j, j < 0 → (u.ie &&& u.ifr).getLsbD j = false) ∧ pushOpen u) :=
  ⟨⟨by decide, rfl, by decide, by decide, by rfl, by rfl⟩, ⟨by decide, rfl, by decide, by decide, by rfl, by rfl⟩⟩

theorem witness_HaltedCoreWakesOrCountsTime :
    let s : State := { clean with halted := true, ie := 0x10, ifr := 0x10 }
    (s.ie &&& s.ifr &&& 0x1F ≠ 0 ∧ s.ime = false) ∧
    (let u : State := { s with ifr := 0xE0 }
     u.halted = true ∧ u.ie &&& u.ifr &&& 0x1F = 0) := by decide

theorem witness_HaltBugLivelocks :
    let s : State := { ramCode [0x76] with ie := 0x01, ifr := 0x01 }
    s.cfg.haltBugMode = .rewind ∧ s.haltBugPending = false ∧ s.cfg.eiDelay = .none ∧ s.halted = false ∧ s.ime = false ∧
      s.ie &&& s.ifr &&& 0x1F ≠ 0 ∧ s.pc.toNat < 0xFF00 ∧ stored s.pc s = 0x76 ∧ open_ s.pc s :=
  ⟨by rfl, by rfl, by rfl, by rfl, by rfl, by decide, by decide, by rfl, by rfl⟩

/-- The byte 0x3E after the HALT is fetched twice: LD A,0x3E. -/
theorem witness_HaltBugRepeatsTheByte :
    let s : State := { ramCode [0x3E, 0x14] with
      cfg := { Config.default with haltBugMode := .repeatNextByte }, haltBugPending := true }
    s.cfg.haltBugMode = .repeatNextByte ∧ s.haltBugPending = true ∧ s.halted = false ∧ dispatchDue s = none ∧
      open_ s.pc s ∧ open_ (s.pc + 1) s ∧ drawn s.pc s = false ∧ drawn (s.pc + 1) s = false ∧
      ∃ rest, decode [stored s.pc s, stored s.pc s, stored (s.pc + 1) s] = .ok (.ld_A_u8 0x3E, rest) :=
  ⟨by rfl, by rfl, by rfl, by rfl, by rfl, by rfl, by rfl, by rfl, _, by rfl⟩

/-- EI with IME = 0 and with IME = 1, and an armed Step of DI. -/
theorem witness_DelayedEiEnablesAfterOneInstruction :
    let s : State := { ramCode [0xFB] with cfg := { Config.default with eiDelay := .oneInstruction } }
    let v : State := { s with ime := true }
    let u : State := { ramCode [0xF3] with cfg := { Config.default with eiDelay := .oneInstruction }, eiPending := true }
    (s.cfg.eiDelay = .oneInstruction ∧ AtInstruction .ei s ∧ s.eiPending = false ∧ ∃ t, engineStep exec s = .next t) ∧
    (v.cfg.eiDelay = .oneInstruction ∧ AtInstruction .ei v ∧ v.eiPending = false ∧ ∃ t, engineStep exec v = .next t) ∧
    (u.cfg.eiDelay = .oneInstruction ∧ AtInstruction .di u ∧ u.eiPending = true ∧ ∃ t, engineStep exec u = .next t) :=
  ⟨⟨by rfl, atInstruction_of (by decide) (by rfl) (by decide), by rfl, _, by rfl⟩,
    ⟨by rfl, atInstruction_of (by decide) (by rfl) (by decide), by rfl, _, by rfl⟩,
    ⟨by rfl, atInstruction_of (by decide) (by rfl) (by decide), by rfl, _, by rfl⟩⟩

theorem witness_AdvanceTimersRunsTheLoops :
    clean.cfg.divMode = .literal ∧ ({ clean with tac := 0x05 }).tac.getLsbD 2 = true := by decide

/-- The timer off; on with no overflow up to 255; on with one at 256, and with TMA = 0xFF. -/
theorem witness_TimaCountsReloadsAndRequests :
    (clean.tac.getLsbD 2 = false) ∧
    (let s : State := { clean with tac := 0x05, tima := 0xFE }
     s.tac.getLsbD 2 = true ∧ s.tima.toNat + (s.timerAccum + 16 * s.cfg.timerTicksPerCycle) / 16 = 255) ∧
    (let s : State := { clean with tac := 0x05, tima := 0xFF, tma := 0xFF }
     s.tac.getLsbD 2 = true ∧ s.tima.toNat + (s.timerAccum + 16 * s.cfg.timerTicksPerCycle) / 16 = 256) := by decide

theorem witness_EnvironmentSetsRequestsAndDeviceBytes :
    let i : EnvInput := { vblank := true, lcd := false, serial := false, joypad := true, ioWrites := [(0xFF44, 0x01), (0xFF00, 0xCF), (0xFF44, 0x90)] }
    let s : State := { clean with env := [i] }
    Inv s ∧ clean.env = [] ∧ s.env = i :: [] ∧ i.ioWrites = [(0xFF44, 0x01)] ++ (0xFF00, 0xCF) :: [(0xFF44, 0x90)] ∧
      (∀ w : Byte, ((0xFF00 : Word), w) ∉ [((0xFF44 : Word), (0x90 : Byte))]) ∧ isDeviceIo 0xFF00 = true ∧
      ((0xFF45 : Word) ≠ 0xFF0F ∧ ∀ v, ((0xFF45 : Word), v) ∉ i.ioWrites) ∧ isDeviceIo 0xFF04 = false :=
  ⟨by constructor <;> decide, by rfl, by rfl, by rfl, by simp, by rfl, by simp, by rfl⟩

/-- FlagsFollowTheTableColumn, StoresStayAtTheirTargets and OnlyNamedInstructionsWriteControlState: a storing, a flag-writing and
a control instruction. -/
theorem witness_FlagsFollowTheTableColumn :
    (Instr.inc_mHL ≠ .prefix_CB ∧ ∃ t, exec .inc_mHL clean = .next t) ∧ (Instr.scf ≠ .prefix_CB ∧ ∃ t, exec .scf clean = .next t) ∧
      (Instr.reti ≠ .prefix_CB ∧ ∃ t, exec .reti clean = .next t) :=
  ⟨⟨by decide, _, rfl⟩, ⟨by decide, _, rfl⟩, ⟨by decide, _, rfl⟩⟩

theorem witness_StoresStayAtTheirTargets :
    let s : State := { clean with sp := 0xD000 }
    (∃ t, exec .push_AF s = .next t) ∧ storeTargets .push_AF s = [0xCFFE, 0xCFFF] ∧ storeTargets .nop s = [] ∧
      (∀ a ∈ [(0xCFFE : Word), 0xCFFF], 0x8000 ≤ a.toNat ∧ ¬ (0xA000 ≤ a.toNat ∧ a.toNat ≤ 0xBFFF)) ∧
      (0xFF04 : Word) ∉ [(0xCFFE : Word), 0xCFFF] ∧ (0xD000 : Word) ∉ [(0xCFFE : Word), 0xCFFF] :=
  ⟨⟨_, rfl⟩, by rfl, by rfl, by simp, by simp, by simp⟩

theorem witness_OnlyNamedInstructionsWriteControlState :
    (∃ t, exec .reti clean = .next t ∧ t.ime ≠ clean.ime ∧ t.sp ≠ clean.sp ∧ t.pc ≠ clean.pc) ∧
    (∃ t, exec .halt clean = .next t ∧ t.halted ≠ clean.halted) ∧
    (let s : State := { clean with cfg := { Config.default with eiDelay := .oneInstruction } }
     ∃ t, exec .ei s = .next t ∧ t.eiPending ≠ s.eiPending) ∧
    (let s : State := { clean with cfg := { Config.default with haltBugMode := .repeatNextByte }, ie := 1, ifr := 1 }
     ∃ t, exec .halt s = .next t ∧ t.haltBugPending ≠ s.haltBugPending) :=
  have reti : ∃ t, exec .reti clean = .next t ∧ t.ime ≠ clean.ime ∧ t.sp ≠ clean.sp ∧ t.pc ≠ clean.pc := ⟨_, rfl, by decide⟩
  have halt : ∃ t, exec .halt clean = .next t ∧ t.halted ≠ clean.halted := ⟨_, rfl, by decide⟩
  ⟨reti, halt, ⟨_, rfl, by decide⟩, _, rfl, by decide⟩

/-- Both stops can happen, and neither under the defaults. -/
theorem witness_MachineStopsOnlyUnderRefusingParameters :
    (State.reset.cfg.unmappedPolicy = .openBus ∧ State.reset.cfg.stopMode ≠ .stuck) ∧
    (∃ r, step { strict with pc := 0xE000 } = .fault r) ∧
    (∃ r, step { ramCode [0x10, 0x00] with cfg := { Config.default with stopMode := .stuck } } = .fault r) :=
  ⟨by decide, ⟨_, by rfl⟩, _, by rfl⟩

theorem witness_StepKeepsConfigAndCartridge : ∃ t, step State.reset = .next t := ⟨_, by rfl⟩

theorem witness_StepKeepsTheInvariant : Inv mbc ∧ ∃ t, step { mbc with pc := 0x0100 } = .next t := ⟨mbc_inv, _, by rfl⟩

end Sys2Proof.Tests
end

section
/-! What no step changes: the parameters and the cartridge, and until the environment's turn the inputs still to come. `SameSetup`
relates two such states; `KeepsSetup` says of a piece of the machine that whatever next state it answers is so related. -/

namespace Sys2Proof.Machine

/-- The two states have the same parameters (R40), the same cartridge (R8, R38) and the same inputs still to come (R391). -/
def SameSetup (s t : State) : Prop := t.cfg = s.cfg ∧ t.cart = s.cart ∧ t.env = s.env

/-- Every next state the outcome answers has the setup of `s`. -/
def KeepsSetup (s : State) (o : Out) : Prop := ∀ t, o = .next t → SameSetup s t

theorem SameSetup.trans {s t u : State} (h : SameSetup s t) (h' : SameSetup t u) : SameSetup s u := by
  obtain ⟨hcfg, hcart, henv⟩ := h
  obtain ⟨hcfg', hcart', henv'⟩ := h'
  exact ⟨hcfg'.trans hcfg, hcart'.trans hcart, henv'.trans henv⟩

/-- What keeps the setup of a state keeps that of every state with the same setup. -/
theorem KeepsSetup.after {s u : State} {o : Out} (ho : KeepsSetup u o) (h : SameSetup s u) : KeepsSetup s o :=
  fun t ht => h.trans (ho t ht)

@[simp] theorem keepsSetup_next {s u : State} : KeepsSetup s (.next u) ↔ SameSetup s u := by
  simp [KeepsSetup]

theorem KeepsSetup.andThen {s : State} {o : Out} {k : State → Out} (ho : KeepsSetup s o)
    (hk : ∀ u, SameSetup s u → KeepsSetup s (k u)) : KeepsSetup s (Machine.andThen o k) := by
  intro t ht
  obtain ⟨u, hu, hkt⟩ := andThen_next.1 ht
  exact hk u (ho u hu) t hkt

/-! ### The fetch (R13, R121) -/

theorem KeepsSetup.fetch8 {s u : State} {k : Byte → State → Out} (h : SameSetup s u)
    (hk : ∀ v u', SameSetup s u' → KeepsSetup s (k v u')) : KeepsSetup s (Machine.fetch8 u k) := by
  intro t ht
  refine hk _ _ (h.trans ?_) t (fetch8_next.1 ht).2
  simp [SameSetup]

theorem KeepsSetup.fetchOpcode {s u : State} {k : Byte → State → Out} (h : SameSetup s u)
    (hk : ∀ v u', SameSetup s u' → KeepsSetup s (k v u')) : KeepsSetup s (Machine.fetchOpcode u k) := by
  unfold Machine.fetchOpcode
  split
  · intro t ht
    refine hk _ _ (h.trans ?_) t (read8_next.1 ht).2
    simp [SameSetup]
  · exact .fetch8 h hk

theorem KeepsSetup.fetchInstr {s u : State} {k : Instr → State → Out} (h : SameSetup s u)
    (hk : ∀ i u', SameSetup s u' → KeepsSetup s (k i u')) : KeepsSetup s (Machine.fetchInstr u k) := by
  refine .fetchOpcode h fun op u0 h0 => ?_
  cases lengthOf op with
  | one => exact hk _ _ h0
  | two => exact .fetch8 h0 fun b1 u1 h1 => hk _ _ h1
  | three => exact .fetch8 h0 fun b1 u1 h1 => .fetch8 h1 fun b2 u2 h2 => hk _ _ h2

/-! ### The instructions -/

/-- A conditional form keeps the setup if its taken branch does. -/
theorem KeepsSetup.branchIf {cc : Cond} {x : Slot} {base taken : Nat} {s : State} {k : State → Out}
    (hk : ∀ u, KeepsSetup u (k u)) : KeepsSetup s (Machine.branchIf cc x base taken s k) := by
  intro t ht
  obtain ⟨-, hkt⟩ | ⟨-, rfl⟩ := branchIf_next.1 ht
  · exact SameSetup.trans (t := chargeTaken x taken s) (by simp [SameSetup]) (hk _ t hkt)
  · simp [SameSetup]

theorem jump_keepsSetup (nn : Word) (s : State) : KeepsSetup s (jump nn s) := by simp [jump, SameSetup]

theorem jumpRel_keepsSetup (e : Byte) (s : State) : KeepsSetup s (jumpRel e s) := by simp [jumpRel, SameSetup]

theorem call_keepsSetup (nn : Word) (s : State) : KeepsSetup s (call nn s) := by simp [KeepsSetup, call_next, SameSetup]

theorem ret_keepsSetup (s : State) : KeepsSetup s (ret s) := by simp [KeepsSetup, ret_next, SameSetup]

/-- HALT writes halted, the HALT bug and PC only, on each of its paths (R332). -/
theorem halt_keepsSetup (s : State) : KeepsSetup s (halt s) := by
  unfold halt
  split
  · split <;> simp [SameSetup]
  · simp [SameSetup]

theorem stop_keepsSetup (n : Byte) (s : State) : KeepsSetup s (stop n s) := by
  intro t ht
  obtain ⟨-, rfl⟩ | ⟨-, rfl⟩ := stop_next.1 ht <;> simp [SameSetup]

theorem enableInterrupts_keepsSetup (s : State) : KeepsSetup s (enableInterrupts s) := by
  intro t ht
  obtain ⟨-, rfl⟩ | ⟨-, rfl⟩ := enableInterrupts_next.1 ht <;> simp [SameSetup]

theorem cbShift_keepsSetup (op : ShiftOp) (r : R8) (s : State) : KeepsSetup s (cbShift op r s) := by
  simp [KeepsSetup, cbShift_next, SameSetup]

theorem cbBit_keepsSetup (b : Idx8) (r : R8) (s : State) : KeepsSetup s (cbBit b r s) := by
  simp [KeepsSetup, cbBit_next, SameSetup]

theorem cbRes_keepsSetup (b : Idx8) (r : R8) (s : State) : KeepsSetup s (cbRes b r s) := by
  simp [KeepsSetup, cbRes_next, SameSetup]

theorem cbSet_keepsSetup (b : Idx8) (r : R8) (s : State) : KeepsSetup s (cbSet b r s) := by
  simp [KeepsSetup, cbSet_next, SameSetup]

theorem cbOperate_keepsSetup (op : Byte) (s : State) : KeepsSetup s (cbOperate op s) := by
  refine KeepsSetup.after (u := charge (.cb op) (cbCost op) s) ?_ (by simp [SameSetup])
  unfold cbOperate
  split
  · exact cbShift_keepsSetup _ _ _
  · exact cbBit_keepsSetup _ _ _
  · exact cbRes_keepsSetup _ _ _
  · exact cbSet_keepsSetup _ _ _

/-- The slot 0xCB taken by itself fetches one more byte and runs the CB row it names (log 9). -/
theorem cbPrefix_keepsSetup (s : State) : KeepsSetup s (cbPrefix s) :=
  .fetch8 ⟨rfl, rfl, rfl⟩ fun op u h => (cbOperate_keepsSetup op u).after h

/-- Whatever an instruction's shape, it keeps the setup: the stores of the Bus change no ROM byte (R75), and no other operation
writes these fields. -/
theorem Shape.run_keepsSetup (x : Slot) (base taken : Nat) (s : State) (sh : Shape) : KeepsSetup s (sh.run x base taken s) := by
  have charged {o : Out} (h : KeepsSetup (charge x base s) o) : KeepsSetup s o := h.after (by simp [SameSetup])
  cases sh with
  | jpIf cc nn => exact .branchIf (jump_keepsSetup nn)
  | jrIf cc e => exact .branchIf (jumpRel_keepsSetup e)
  | callIf cc nn => exact .branchIf (call_keepsSetup nn)
  | retIf cc => exact .branchIf ret_keepsSetup
  | jp nn => exact charged (jump_keepsSetup nn _)
  | jpHL => exact charged (jump_keepsSetup _ _)
  | jr e => exact charged (jumpRel_keepsSetup e _)
  | call nn => exact charged (call_keepsSetup nn _)
  | rst n => exact charged (call_keepsSetup _ _)
  | ret => exact charged (ret_keepsSetup _)
  | halt => exact charged (halt_keepsSetup _)
  | stop n => exact charged (stop_keepsSetup n _)
  | ei => exact charged (enableInterrupts_keepsSetup _)
  | cbShift op r => exact charged (cbShift_keepsSetup op r _)
  | cbBit b r => exact charged (cbBit_keepsSetup b r _)
  | cbRes b r => exact charged (cbRes_keepsSetup b r _)
  | cbSet b r => exact charged (cbSet_keepsSetup b r _)
  | prefixCb => exact cbPrefix_keepsSetup s
  | noOp | loadSPHL | rotA => simp [Shape.run, Machine.noOp, rotateA, SameSetup]
  | daa | cpl | scf | ccf => simp [Shape.run, Machine.daa, Machine.cpl, Machine.scf, Machine.ccf, SameSetup]
  | addHL | incPair | decPair | addSP | loadHLSP =>
    simp [Shape.run, Machine.addHL, incR16, decR16, Machine.addSP, Machine.loadHLSP, SameSetup]
  | copy | loadImm8 | loadImm16 => simp [KeepsSetup, Shape.run, copyR8_next, loadImm8_next, loadImm16_next, SameSetup]
  | loadA | storeA | loadAHL | storeAHL =>
    simp [KeepsSetup, Shape.run, loadA_next, storeA_next, loadAThenHL_next, storeAThenHL_next, SameSetup]
  | storeSP | push | pop => simp [KeepsSetup, Shape.run, storeSP_next, pushPair_next, popPair_next, SameSetup]
  | alu | aluImm => simp [KeepsSetup, Shape.run, aluR8_next, aluImm_next, aluApply, SameSetup]
  | inc | dec => simp [KeepsSetup, Shape.run, incR8_next, decR8_next, SameSetup]
  | reti | di => simp [KeepsSetup, Shape.run, returnFromInterrupt_next, disableInterrupts_next, SameSetup]

theorem exec_keepsSetup (i : Instr) (s : State) : KeepsSetup s (exec i s) :=
  exec_eq_run i s ▸ Shape.run_keepsSetup _ _ _ s _

/-! ### The engine, the timers and the environment -/

theorem instructionStep_keepsSetup (s : State) : KeepsSetup s (instructionStep exec s) :=
  .fetchInstr ⟨rfl, rfl, rfl⟩ fun i u h =>
    ((exec_keepsSetup i u).after h).andThen fun v hv => keepsSetup_next.2 (hv.trans (by simp [SameSetup]))

theorem takeInterrupt_keepsSetup (i : IrqSource) (s : State) : KeepsSetup s (takeInterrupt i s) := by
  simp [KeepsSetup, takeInterrupt_next, SameSetup]

theorem engineStep_keepsSetup (s : State) : KeepsSetup s (engineStep exec s) := by
  have hw : SameSetup s (wake s) := by simp [SameSetup]
  unfold engineStep
  split
  · exact (takeInterrupt_keepsSetup _ _).after hw
  · split
    · exact keepsSetup_next.2 (hw.trans (by simp [SameSetup]))
    · exact (instructionStep_keepsSetup _).after hw

/-- The environment's turn takes the first of the coming inputs, if one is left (R391, log 3). -/
@[simp] theorem envTurn_env (s : State) : (envTurn s).env = s.env.drop 1 := by
  unfold envTurn
  cases h : s.env with
  | nil => simp [h]
  | cons i rest => simp

/-- Settles O59: up to the environment's turn a step keeps parameters, cartridge and coming inputs; the turn then takes one
input. -/
theorem stepKeepsConfigAndCartridge : Obligations.StepKeepsConfigAndCartridge := by
  unfold Obligations.StepKeepsConfigAndCartridge
  intro s t h
  obtain ⟨u, hu, rfl⟩ := step_next.1 h
  obtain ⟨hcfg, hcart, henv⟩ := engineStep_keepsSetup s u hu
  simp [hcfg, hcart, henv]

end Sys2Proof.Machine
end

section
/-! Every step keeps the invariant (R22, R32, R37, R38, R39). Up to AdvanceTimers the invariant holds but for the bound on
timerAccum (`Steady`), whatever operation runs; AdvanceTimers and the environment's turn then give the whole invariant. -/

namespace Sys2Proof.Machine

/-- Every next state the outcome answers satisfies `P`. -/
def Yields (P : State → Prop) (o : Out) : Prop := ∀ t, o = .next t → P t

@[simp] theorem yields_next {P : State → Prop} {s : State} : Yields P (.next s) ↔ P s := by simp [Yields]

/-- An outcome that under some condition is that of `o'`, and else answers no next state. -/
theorem Yields.of_next {P : State → Prop} {C : Prop} {o o' : Out} (h : ∀ {t}, o = .next t ↔ C ∧ o' = .next t)
    (ho : Yields P o') : Yields P o := fun t ht => ho t (h.1 ht).2

/-- An outcome that under some condition answers `u`, and else no next state. -/
theorem Yields.of_eq {P : State → Prop} {C : Prop} {o : Out} {u : State} (h : ∀ {t}, o = .next t ↔ C ∧ u = t) (hu : P u) :
    Yields P o := fun _ ht => (h.1 ht).2 ▸ hu

theorem Yields.andThen {P Q : State → Prop} {o : Out} {k : State → Out} (ho : Yields P o) (hk : ∀ u, P u → Yields Q (k u)) :
    Yields Q (Machine.andThen o k) := by
  intro t ht
  obtain ⟨u, hu, hkt⟩ := andThen_next.1 ht
  exact hk u (ho u hu) t hkt

/-- A conditional form goes on from the taken branch's charge, or ends with the base charge. -/
theorem Yields.branchIf {P : State → Prop} {cc : Cond} {x : Slot} {base taken : Nat} {s : State} {k : State → Out}
    (hk : Yields P (k (chargeTaken x taken s))) (hb : P (charge x base s)) : Yields P (Machine.branchIf cc x base taken s k) := by
  intro t ht
  obtain ⟨-, hkt⟩ | ⟨-, rfl⟩ := branchIf_next.1 ht
  · exact hk t hkt
  · exact hb

/-! ### Steadiness and the operations on the state -/

/-- The fields steadiness depends on. -/
def steadyFields (s : State) : Byte × Config × Cartridge × BitVec 5 × Nat × Memory × Memory × Bool × Bool :=
  (s.f, s.cfg, s.cart, s.primary, s.divAccum, s.mem, s.cartRam, s.eiPending, s.haltBugPending)

theorem Steady.of_fields {s t : State} (h : Steady s) (e : steadyFields t = steadyFields s) : Steady t := by
  simp only [steadyFields, Prod.mk.injEq] at e
  obtain ⟨hf, hcfg, hcart, hp, hd, hm, hr, he, hb⟩ := e
  exact h.same hf hcfg hcart hp hd hm hr he hb

/-- A flag byte with a clear low nibble may be written (R22). -/
theorem Steady.withF {s : State} (h : Steady s) {v : Byte} (hv : v &&& 0x0F = 0) : Steady { s with f := v } :=
  { h with flagNibble := hv }

theorem Steady.setF {s : State} (h : Steady s) (z n k c : Bool) : Steady (Machine.setF z n k c s) :=
  h.withF (flagByte_low z n k c)

theorem Steady.aluApply {s : State} (h : Steady s) (op : AluOp) (v : Byte) : Steady (Machine.aluApply op v s) :=
  (h.setF _ _ _ _).of_fields rfl

theorem Steady.writeR16 {s : State} (h : Steady s) (r : R16) (v : Word) : Steady (Machine.writeR16 r v s) :=
  h.of_fields (by simp [steadyFields])

/-- POP AF masks the low nibble of F (R22, R182). -/
theorem Steady.writeStk {s : State} (h : Steady s) (r : R16Stk) (v : Word) : Steady (Machine.writeStk r v s) := by
  cases r with
  | AF => exact (h.withF (masked_low (loByte v))).of_fields rfl
  | BC | DE | HL => exact h.of_fields rfl

/-! ### Steadiness and the instructions -/

section
variable {s : State} (h : Steady s)
include h

theorem Steady.jump (nn : Word) : Yields Steady (Machine.jump nn s) := yields_next.2 (h.of_fields rfl)

theorem Steady.jumpRel (e : Byte) : Yields Steady (Machine.jumpRel e s) := yields_next.2 (h.of_fields rfl)

theorem Steady.call (nn : Word) : Yields Steady (Machine.call nn s) :=
  .of_eq call_next ((h.pushed _).of_fields rfl)

theorem Steady.ret : Yields Steady (Machine.ret s) :=
  .of_eq ret_next (h.afterPop.of_fields rfl)

theorem Steady.cbShift (op : ShiftOp) (r : R8) : Yields Steady (Machine.cbShift op r s) :=
  .of_eq cbShift_next (((h.afterOpnd r).put r _).setF _ _ _ _)

theorem Steady.cbBit (b : Idx8) (r : R8) : Yields Steady (Machine.cbBit b r s) :=
  .of_eq cbBit_next ((h.afterOpnd r).setF _ _ _ _)

theorem Steady.cbRes (b : Idx8) (r : R8) : Yields Steady (Machine.cbRes b r s) :=
  .of_eq cbRes_next ((h.afterOpnd r).put r _)

theorem Steady.cbSet (b : Idx8) (r : R8) : Yields Steady (Machine.cbSet b r s) :=
  .of_eq cbSet_next ((h.afterOpnd r).put r _)

theorem Steady.stop (n : Byte) : Yields Steady (Machine.stop n s) := by
  intro t ht
  obtain ⟨-, rfl⟩ | ⟨-, rfl⟩ := stop_next.1 ht
  · exact h.of_fields rfl
  · exact h

/-- HALT arms the waiting HALT bug under HALT_BUG_MODE = RepeatNextByte only (R32, R332). -/
theorem Steady.halt : Yields Steady (Machine.halt s) := by
  unfold Machine.halt
  split
  · split
    · exact yields_next.2 (h.of_fields rfl)
    · rename_i hmode
      exact yields_next.2 { h with haltBugAbsent := by simp [hmode] }
  · exact yields_next.2 (h.of_fields rfl)

theorem Steady.disableInterrupts : Yields Steady (Machine.disableInterrupts s) := by
  intro t ht
  obtain rfl := disableInterrupts_next.1 ht
  exact { h with eiAbsent := fun hd => by simp [h.eiAbsent hd] }

/-- EI arms the waiting EI under EI_DELAY = 1 only (R32, R337). -/
theorem Steady.enableInterrupts : Yields Steady (Machine.enableInterrupts s) := by
  intro t ht
  obtain ⟨-, rfl⟩ | ⟨hdelay, rfl⟩ := enableInterrupts_next.1 ht
  · exact h.of_fields rfl
  · exact { h with eiAbsent := by simp [hdelay] }

theorem Steady.cbOperate (op : Byte) : Yields Steady (Machine.cbOperate op s) := by
  have hc : Steady (charge (.cb op) (cbCost op) s) := h.of_fields rfl
  unfold Machine.cbOperate
  split
  · exact hc.cbShift _ _
  · exact hc.cbBit _ _
  · exact hc.cbRes _ _
  · exact hc.cbSet _ _

/-! ### Steadiness and the fetch -/

theorem Steady.fetch8 {k : Byte → State → Out} (hk : ∀ v u, Steady u → Yields Steady (k v u)) :
    Yields Steady (Machine.fetch8 s k) :=
  .of_next fetch8_next (hk _ _ ((h.afterRead s.pc).of_fields rfl))

/-- The opcode fetch of R121 at most clears a waiting HALT bug (R333). -/
theorem Steady.fetchOpcode {k : Byte → State → Out} (hk : ∀ v u, Steady u → Yields Steady (k v u)) :
    Yields Steady (Machine.fetchOpcode s k) := by
  unfold Machine.fetchOpcode
  split
  · refine .of_next read8_next (hk _ _ ?_)
    exact { h.afterRead s.pc with haltBugAbsent := fun _ => rfl }
  · exact h.fetch8 hk

theorem Steady.fetchInstr {k : Instr → State → Out} (hk : ∀ i u, Steady u → Yields Steady (k i u)) :
    Yields Steady (Machine.fetchInstr s k) := by
  refine h.fetchOpcode fun op u0 h0 => ?_
  cases lengthOf op with
  | one => exact hk _ _ h0
  | two => exact h0.fetch8 fun b1 u1 h1 => hk _ _ h1
  | three => exact h0.fetch8 fun b1 u1 h1 => h1.fetch8 fun b2 u2 h2 => hk _ _ h2

/-! ### Steadiness, every instruction and the engine -/

/-- Whatever an instruction's shape, it keeps steadiness: it goes through the Bus, the register writes and the flag writes
above. -/
theorem Steady.run (x : Slot) (base taken : Nat) (sh : Shape) : Yields Steady (sh.run x base taken s) := by
  have hc : Steady (charge x base s) := h.of_fields rfl
  have ht : Steady (chargeTaken x taken s) := h.of_fields rfl
  cases sh with
  | copy d r =>
    intro t e
    obtain ⟨-, -, rfl⟩ := copyR8_next.1 e
    exact (hc.afterOpnd r).put d _
  | loadImm8 d n => exact .of_eq loadImm8_next (hc.put d n)
  | loadA form => exact .of_eq loadA_next ((hc.afterRead _).of_fields rfl)
  | storeA form => exact .of_eq storeA_next (hc.store _ _)
  | storeAHL delta => exact .of_eq storeAThenHL_next ((hc.store _ _).of_fields rfl)
  | loadAHL delta => exact .of_eq loadAThenHL_next ((hc.afterRead _).of_fields rfl)
  | storeSP nn => exact .of_eq storeSP_next ((hc.store _ _).store _ _)
  | push r => exact .of_eq pushPair_next (hc.pushed _)
  | pop r => exact .of_eq popPair_next (hc.afterPop.writeStk r _)
  | alu op r => exact .of_eq aluR8_next ((hc.afterOpnd r).aluApply op _)
  | inc r => exact .of_eq incR8_next (((hc.afterOpnd r).put r _).setF _ _ _ _)
  | dec r => exact .of_eq decR8_next (((hc.afterOpnd r).put r _).setF _ _ _ _)
  | reti => exact .of_eq returnFromInterrupt_next (hc.afterPop.of_fields rfl)
  | aluImm op n => exact yields_next.2 (hc.aluApply op n)
  | loadImm16 r nn => exact yields_next.2 (hc.writeR16 r nn)
  | incPair r | decPair r => exact yields_next.2 (hc.writeR16 r _)
  | daa | cpl | scf | ccf | addHL | addSP | loadHLSP | rotA => exact yields_next.2 ((hc.setF _ _ _ _).of_fields rfl)
  | noOp | loadSPHL => exact yields_next.2 (hc.of_fields rfl)
  | cbShift op r => exact hc.cbShift op r
  | cbBit b r => exact hc.cbBit b r
  | cbRes b r => exact hc.cbRes b r
  | cbSet b r => exact hc.cbSet b r
  | jp nn => exact hc.jump nn
  | jpHL => exact hc.jump _
  | jr e => exact hc.jumpRel e
  | call nn => exact hc.call nn
  | rst n => exact hc.call _
  | ret => exact hc.ret
  | jpIf cc nn => exact .branchIf (ht.jump nn) hc
  | jrIf cc e => exact .branchIf (ht.jumpRel e) hc
  | callIf cc nn => exact .branchIf (ht.call nn) hc
  | retIf cc => exact .branchIf ht.ret hc
  | stop n => exact hc.stop n
  | halt => exact hc.halt
  | di => exact hc.disableInterrupts
  | ei => exact hc.enableInterrupts
  | prefixCb => exact h.fetch8 fun op u hu => hu.cbOperate op

theorem Steady.exec (i : Instr) : Yields Steady (Machine.exec i s) := exec_eq_run i s ▸ h.run _ _ _ _

/-- A waiting EI that takes effect is no longer waiting (R370). -/
theorem Steady.settleEi (armed : Bool) : Steady (Machine.settleEi armed s) := by
  unfold Machine.settleEi
  split
  · exact { h with eiAbsent := fun _ => rfl }
  · exact h

theorem Steady.instructionStep : Yields Steady (Machine.instructionStep Machine.exec s) :=
  h.fetchInstr fun i _ hu => (hu.exec i).andThen fun _ hv => yields_next.2 (hv.settleEi _)

theorem Steady.takeInterrupt (i : IrqSource) : Yields Steady (Machine.takeInterrupt i s) := by
  refine .of_eq takeInterrupt_next (.of_fields (.pushed ?_ _) rfl)
  exact h.of_fields rfl

theorem Steady.engineStep : Yields Steady (Machine.engineStep Machine.exec s) := by
  have hw : Steady (wake s) := h.of_fields (by simp [steadyFields])
  unfold Machine.engineStep
  split
  · exact hw.takeInterrupt _
  · split
    · exact yields_next.2 (hw.of_fields rfl)
    · exact hw.instructionStep

end

/-- Settles O60: the engine keeps all of the invariant but the bound on timerAccum, which AdvanceTimers gives back (R386). -/
theorem stepKeepsTheInvariant : Obligations.StepKeepsTheInvariant := by
  unfold Obligations.StepKeepsTheInvariant
  intro s t h hstep
  obtain ⟨u, hu, rfl⟩ := step_next.1 hstep
  exact ((h.steady.engineStep u hu).advanceTimers u.cycles).envTurn

end Sys2Proof.Machine
end

section
/-! Power-on (R43, R420): what a load that is not refused says of the image, and the two statements about the first state. -/

namespace Sys2Proof.Machine

/-- A loaded image is the cartridge's ROM and has the length its ROM-size byte declares (R95). -/
theorem loadCartridge_ok {img : Image} {cart : Cartridge} (h : loadCartridge img = .ok cart) :
    img.length = cart.romBytes ∧ cart.rom = img.bytes := by
  simp only [loadCartridge] at h
  split at h
  · cases h
  · split_ifs at h with hrom hlen
    split at h
    · cases h
    · cases h
      exact ⟨hlen, rfl⟩

/-- Settles O3: the reset values meet the bounds of R22, R32 and R37, and a loaded image has the length its ROM-size byte
declares (R95), so the cartridge is in canonical form because the image is. -/
theorem powerOnMeetsTheInvariant : Obligations.PowerOnMeetsTheInvariant := by
  unfold Obligations.PowerOnMeetsTheInvariant
  intro cfg img ram cartRam env s h himg hinside hram hramIn hcartRam hcartRamIn
  unfold powerOn at h
  split at h
  · cases h
  · rename_i cart hload
    cases h
    obtain ⟨hlen, hrom⟩ := loadCartridge_ok hload
    have hcart : cart.wf = true := by simp [Cartridge.wf, hrom, himg, ← hlen, hinside]
    exact {
      flagNibble := masked_low _
      primaryNonzero := by simp
      divAccumBound := by simp
      timerAccumBound := by simp [timerOn]
      eiAbsent := fun _ => rfl
      haltBugAbsent := fun _ => rfl
      memCanonical := hram
      memInside := hramIn
      cartRamCanonical := hcartRam
      cartRamInside := hcartRamIn
      cartWf := hcart }

/-- Settles O1: a loaded image powers on, with each field at its value in R43. -/
theorem powerOnSetsEveryField : Obligations.PowerOnSetsEveryField := by
  unfold Obligations.PowerOnSetsEveryField
  refine ⟨fun cfg img ram cartRam env cart hload => ?_, rfl⟩
  simp [powerOn, hload]

end Sys2Proof.Machine
end

section
/-! Which instructions write the control state: IME, halted, the waiting EI, the waiting HALT bug, SP and PC (R26 to R28, R31,
R32). Every shape that may write one of them stands in one row of the opcode table; every other shape leaves all six alone. -/

namespace Sys2Proof.Machine

/-- The control state. -/
def control (s : State) : Bool × Bool × Bool × Bool × Word × Word :=
  (s.ime, s.halted, s.eiPending, s.haltBugPending, s.sp, s.pc)

/-- The instruction a shape stands for, if the shape may write the control state. -/
def Shape.controlRow : Shape → Option Instr
  | .loadSPHL => some .ld_SP_HL
  | .loadImm16 .SP nn => some (.ld_SP_u16 nn)
  | .incPair .SP => some .inc_SP
  | .decPair .SP => some .dec_SP
  | .addSP e => some (.add_SP_i8 e)
  | .push r => some (pushRow r)
  | .pop r => some (popRow r)
  | .jp nn => some (.jp_u16 nn)
  | .jpHL => some .jp_HL
  | .jr e => some (.jr_i8 e)
  | .jpIf cc nn => some (jpRow cc nn)
  | .jrIf cc e => some (jrRow cc e)
  | .call nn => some (.call_u16 nn)
  | .callIf cc nn => some (callRow cc nn)
  | .ret => some .ret
  | .retIf cc => some (retRow cc)
  | .reti => some .reti
  | .rst t => some (rstRow t)
  | .stop n => some (.stop n)
  | .halt => some .halt
  | .di => some .di
  | .ei => some .ei
  | .prefixCb => some .prefix_CB
  | _ => none

/-- Such a shape has the one instruction. -/
theorem eq_of_controlRow {i j : Instr} (h : (rowOf i).1.controlRow = some j) : i = j := by
  cases i <;> cases h <;> rfl

/-- Every other shape leaves the control state alone. -/
theorem Shape.run_keepsControl (x : Slot) (base taken : Nat) (s : State) {sh : Shape} (hsh : sh.controlRow = none) :
    Yields (fun t => control t = control s) (sh.run x base taken s) := by
  cases sh with
  | loadImm16 r | incPair r | decPair r =>
    cases r with
    | SP => cases hsh
    | BC | DE | HL => exact yields_next.2 rfl
  | noOp | rotA | daa | cpl | scf | ccf | addHL | loadHLSP | aluImm => exact yields_next.2 rfl
  | copy | loadImm8 | loadA | storeA | loadAHL | storeAHL | storeSP =>
    simp [Yields, Shape.run, control, copyR8_next, loadImm8_next, loadA_next, storeA_next, loadAThenHL_next,
      storeAThenHL_next, storeSP_next]
  | alu | inc | dec => simp [Yields, Shape.run, control, aluR8_next, aluApply, incR8_next, decR8_next]
  | cbShift | cbBit | cbRes | cbSet => simp [Yields, Shape.run, control, cbShift_next, cbBit_next, cbRes_next, cbSet_next]
  | _ => cases hsh

/-- HALT writes none of IME, the waiting EI, SP and F, on each of its paths (R332). -/
theorem halt_keeps (s : State) :
    Yields (fun t => t.ime = s.ime ∧ t.eiPending = s.eiPending ∧ t.sp = s.sp ∧ t.f = s.f) (halt s) := by
  unfold halt
  split
  · split <;> simp
  · simp

/-- The CB row that the slot 0xCB by itself fetches and runs (log 9) leaves the control state alone too. -/
theorem cbOperate_keepsControl (op : Byte) (s : State) : Yields (fun t => control t = control s) (cbOperate op s) := by
  unfold cbOperate
  split
  · exact Shape.run_keepsControl _ _ 0 s (sh := .cbShift _ _) rfl
  · exact Shape.run_keepsControl _ _ 0 s (sh := .cbBit _ _) rfl
  · exact Shape.run_keepsControl _ _ 0 s (sh := .cbRes _ _) rfl
  · exact Shape.run_keepsControl _ _ 0 s (sh := .cbSet _ _) rfl

/-- Settles O57: a shape that may write the control state has one instruction, and what that one writes is read off its
operation; every other shape leaves the control state alone. -/
theorem onlyNamedInstructionsWriteControlState : Obligations.OnlyNamedInstructionsWriteControlState := by
  unfold Obligations.OnlyNamedInstructionsWriteControlState
  intro i s t h
  rw [exec_eq_run] at h
  have hi := @eq_of_controlRow i
  generalize (rowOf i).1 = sh at h hi
  cases hsh : sh.controlRow with
  | none =>
    have hkeep := Shape.run_keepsControl _ _ _ s hsh t h
    simp only [control, Prod.mk.injEq] at hkeep
    simp [hkeep]
  | some j =>
    obtain rfl := hi hsh
    clear hi
    cases sh with
    | loadImm16 r | incPair r | decPair r =>
      cases r <;> cases hsh
      obtain rfl := next_inj.1 h
      simp [writeR16]
    | loadSPHL | addSP | jp | jpHL | jr =>
      cases hsh
      obtain rfl := next_inj.1 h
      simp
    | push =>
      cases hsh
      obtain ⟨-, rfl⟩ := pushPair_next.1 h
      simp
    | pop =>
      cases hsh
      obtain ⟨-, rfl⟩ := popPair_next.1 h
      simp
    | call | rst =>
      cases hsh
      obtain ⟨-, rfl⟩ := call_next.1 h
      simp
    | ret =>
      cases hsh
      obtain ⟨-, rfl⟩ := ret_next.1 h
      simp
    | reti =>
      cases hsh
      obtain ⟨-, rfl⟩ := returnFromInterrupt_next.1 h
      simp
    | jpIf | jrIf =>
      cases hsh
      obtain ⟨-, hk⟩ | ⟨-, rfl⟩ := branchIf_next.1 h
      · obtain rfl := next_inj.1 hk
        simp
      · simp
    | callIf =>
      cases hsh
      obtain ⟨-, hk⟩ | ⟨-, rfl⟩ := branchIf_next.1 h
      · obtain ⟨-, rfl⟩ := call_next.1 hk
        simp
      · simp
    | retIf =>
      cases hsh
      obtain ⟨-, hk⟩ | ⟨-, rfl⟩ := branchIf_next.1 h
      · obtain ⟨-, rfl⟩ := ret_next.1 hk
        simp
      · simp
    | stop n =>
      cases hsh
      obtain ⟨-, rfl⟩ | ⟨-, rfl⟩ := (stop_next (n := n)).1 h <;> simp
    | halt =>
      cases hsh
      obtain ⟨hime, hei, hsp, -⟩ := halt_keeps _ t h
      simp [hime, hei, hsp]
    | di =>
      cases hsh
      obtain rfl := disableInterrupts_next.1 h
      simp
    | ei =>
      cases hsh
      obtain ⟨-, rfl⟩ | ⟨-, rfl⟩ := enableInterrupts_next.1 h <;> simp
    | prefixCb =>
      cases hsh
      have hkeep := cbOperate_keepsControl _ _ _ (fetch8_next.1 h).2
      simp only [control, Prod.mk.injEq] at hkeep
      simp [hkeep]
    | _ => cases hsh

end Sys2Proof.Machine
end

section
/-! The flag column of the opcode table (R24, R25): every shape leaves the flag byte alone or writes one whose flags meet the
shape's column. -/

namespace Sys2Proof.Machine

/-- A flag byte meets a column, given the flag byte before: flag by flag, the whole byte where all four are unchanged, and the low
nibble 0 elsewhere (R22). -/
structure FlagColumn.Meets (col : FlagColumn) (before after : Byte) : Prop where
  z : col.z.holds (before.getLsbD 7) (after.getLsbD 7)
  n : col.n.holds (before.getLsbD 6) (after.getLsbD 6)
  h : col.h.holds (before.getLsbD 5) (after.getLsbD 5)
  c : col.c.holds (before.getLsbD 4) (after.getLsbD 4)
  whole : col = .kept → after = before
  low : col ≠ .kept → after &&& 0x0F = 0

/-- The column `----` is met by the flag byte unchanged alone. -/
@[simp] theorem FlagColumn.meets_kept {f f' : Byte} : FlagColumn.kept.Meets f f' ↔ f' = f := by
  refine ⟨fun h => h.whole rfl, ?_⟩
  rintro rfl
  exact ⟨rfl, rfl, rfl, rfl, fun _ => rfl, fun h => absurd rfl h⟩

/-- Another column is met by four flags that meet it one by one. -/
theorem FlagColumn.meets_flagByte {col : FlagColumn} {f : Byte} {z n h c : Bool} (hcol : col ≠ .kept)
    (hz : col.z.holds (f.getLsbD 7) z) (hn : col.n.holds (f.getLsbD 6) n) (hh : col.h.holds (f.getLsbD 5) h)
    (hc : col.c.holds (f.getLsbD 4) c) : col.Meets f (flagByte z n h c) where
  z := by rwa [flagByte_z]
  n := by rwa [flagByte_n]
  h := by rwa [flagByte_h]
  c := by rwa [flagByte_c]
  whole := fun h => absurd h hcol
  low := fun _ => flagByte_low z n h c

/-- DAA clears H (R221). -/
theorem daaCompute_h (a : Byte) (n h c : Bool) : (daaCompute a n h c).h = false := by
  cases n <;> rfl

/-- The flags of an ALU operation meet its column, whatever the flag byte before. -/
theorem aluApply_meets (op : AluOp) (v n f : Byte) (s : State) : (Shape.aluImm op n).column.Meets f (aluApply op v s).f := by
  cases op with
  | add | adc | sub | sbc | cp => exact FlagColumn.meets_flagByte nofun trivial rfl trivial trivial
  | and | xor | or => exact FlagColumn.meets_flagByte nofun trivial rfl rfl rfl

/-- The flags of a CB rotate, shift or SWAP meet its column. -/
theorem cbShiftOut_meets (op : ShiftOp) (r : R8) (v f : Byte) (cin : Bool) :
    (Shape.cbShift op r).column.Meets f
      (flagByte (cbShiftOut op v cin).z (cbShiftOut op v cin).n (cbShiftOut op v cin).h (cbShiftOut op v cin).c) := by
  cases op with
  | swap => exact FlagColumn.meets_flagByte nofun trivial rfl rfl rfl
  | rlc | rrc | rl | rr | sla | sra | srl => exact FlagColumn.meets_flagByte nofun trivial rfl rfl trivial

theorem Shape.column_alu (op : AluOp) (r : R8) (n : Byte) : (Shape.alu op r).column = (Shape.aluImm op n).column := by
  cases op <;> rfl

/-- The flag byte after a shape ran meets the shape's column; the slot 0xCB by itself runs the shape of another row (log 9). -/
theorem Shape.run_meets (x : Slot) (base taken : Nat) (s : State) {sh : Shape} (hsh : sh ≠ .prefixCb) :
    Yields (fun t => sh.column.Meets s.f t.f) (sh.run x base taken s) := by
  cases sh with
  | alu op r => exact .of_eq aluR8_next (column_alu op r 0 ▸ aluApply_meets op _ 0 _ _)
  | aluImm op n => exact yields_next.2 (aluApply_meets op _ n _ _)
  | inc r => exact .of_eq incR8_next (FlagColumn.meets_flagByte nofun trivial rfl trivial rfl)
  | dec r => exact .of_eq decR8_next (FlagColumn.meets_flagByte nofun trivial rfl trivial rfl)
  | cbShift op r => exact .of_eq cbShift_next (cbShiftOut_meets op r _ _ _)
  | cbBit b r => exact .of_eq cbBit_next (FlagColumn.meets_flagByte nofun trivial rfl rfl rfl)
  | daa => exact yields_next.2 (FlagColumn.meets_flagByte nofun trivial rfl (daaCompute_h _ _ _ _) trivial)
  | cpl => exact yields_next.2 (FlagColumn.meets_flagByte nofun rfl rfl rfl rfl)
  | scf => exact yields_next.2 (FlagColumn.meets_flagByte nofun rfl rfl rfl rfl)
  | ccf => exact yields_next.2 (FlagColumn.meets_flagByte nofun rfl rfl rfl trivial)
  | addHL r => exact yields_next.2 (FlagColumn.meets_flagByte nofun rfl rfl trivial trivial)
  | addSP e | loadHLSP e => exact yields_next.2 (FlagColumn.meets_flagByte nofun rfl rfl trivial trivial)
  | rotA op => exact yields_next.2 (FlagColumn.meets_flagByte nofun rfl rfl rfl trivial)
  | pop r =>
    cases r with
    | AF => exact .of_eq popPair_next ⟨trivial, trivial, trivial, trivial, nofun, fun _ => masked_low _⟩
    | BC | DE | HL => exact .of_eq popPair_next (FlagColumn.meets_kept.2 (afterPop_f _))
  | copy | loadImm8 | loadA | storeA | loadAHL | storeAHL | storeSP | push =>
    simp [Yields, Shape.run, Shape.column, copyR8_next, loadImm8_next, loadA_next, storeA_next, loadAThenHL_next,
      storeAThenHL_next, storeSP_next, pushPair_next]
  | loadImm16 | incPair | decPair | loadSPHL | noOp =>
    simp [Shape.run, Shape.column, Machine.loadImm16, incR16, decR16, Machine.noOp]
  | cbRes | cbSet | call | rst | ret | reti | jp | jpHL | jr | di =>
    simp [Yields, Shape.run, Shape.column, cbRes_next, cbSet_next, call_next, restart, ret_next, returnFromInterrupt_next,
      disableInterrupts_next, jump, jumpRel]
  | jpIf | jrIf | callIf | retIf =>
    refine .branchIf ?_ (FlagColumn.meets_kept.2 rfl)
    simp [Yields, Shape.column, jump, jumpRel, call_next, ret_next]
  | stop n | ei => simp +contextual [Yields, Shape.run, Shape.column, stop_next, enableInterrupts_next, or_imp, forall_and]
  | halt =>
    intro t h
    obtain ⟨-, -, -, hf⟩ := halt_keeps _ t h
    exact FlagColumn.meets_kept.2 hf
  | prefixCb => exact absurd rfl hsh

/-- Settles O55: the column of a row is that of its shape, and every shape's flag byte meets its column. -/
theorem flagsFollowTheTableColumn : Obligations.FlagsFollowTheTableColumn := by
  unfold Obligations.FlagsFollowTheTableColumn
  intro i s t hi h
  have hsh : (rowOf i).1 ≠ .prefixCb := fun e => hi (eq_of_controlRow (e ▸ rfl))
  rw [exec_eq_run] at h
  rw [flagColumn_eq]
  obtain ⟨hz, hn, hh, hc, hwhole, hlow⟩ := Shape.run_meets _ _ _ s hsh t h
  exact ⟨hz, hn, hh, hc, hwhole, hlow⟩

end Sys2Proof.Machine
end

section
/-! The Bus region by region (R62, R63): the plain arrays, the I/O registers and the unmapped range. -/

namespace Sys2Proof.Machine

/-- Outside 0xFF00 to 0xFF7F no read draws (R70). -/
theorem drawn_outside_io {a : Word} (s : State) (h : ¬ (0xFF00 ≤ a.toNat ∧ a.toNat ≤ 0xFF7F)) : drawn a s = false := by
  refine drawn_of_not_device (Bool.eq_false_iff.2 fun hd => h ?_)
  obtain ⟨hlow, hhigh, -⟩ := (isDeviceIo_iff a).1 hd
  exact ⟨hlow, hhigh⟩

theorem readByte_outside_io {a : Word} (s : State) (h : ¬ (0xFF00 ≤ a.toNat ∧ a.toNat ≤ 0xFF7F)) : readByte a s = stored a s :=
  readByte_of_not_drawn (drawn_outside_io s h)

/-- Settles O10: the three regions are plain, so the write lands in the byte's own cell of `mem`; no other address shows it. -/
theorem plainStorageReadsBackAndStoresAreLocal : Obligations.PlainStorageReadsBackAndStoresAreLocal := by
  unfold Obligations.PlainStorageReadsBackAndStoresAreLocal
  intro a b v s hs
  refine ⟨fun ha => ⟨?_, ?_⟩, stored_store_other v s⟩
  · rw [readByte_outside_io _ (by omega)]
    exact stored_store_plain v hs.memCanonical ((isPlain_iff a).2 (.inl ha))
  · rw [store_ram v s ha]

/-- A device's byte is read as it is stored under IO_READ_MODEL = Storage, and drawn at each read under Draw (R70, log 12). -/
theorem read_device {a : Word} (s : State) (h : isDeviceIo a = true) :
    (s.cfg.ioReadModel = .storage → readByte a s = stored a s ∧ afterRead a s = s) ∧
    (s.cfg.ioReadModel = .draw →
      readByte a s = Config.drawnByte s.draws ∧ afterRead a s = { s with draws := s.draws + 1 }) := by
  refine ⟨fun hm => ?_, fun hm => ?_⟩
  · have hd := drawn_of_storage hm a
    exact ⟨readByte_of_not_drawn hd, afterRead_of_not_drawn hd⟩
  · simp [readByte, afterRead, drawn, h, hm]

/-- Settles O11: the six registers are no device's bytes, so no read of them draws; the rest of the block is. -/
theorem ioRegistersReadAndWrite : Obligations.IoRegistersReadAndWrite := by
  unfold Obligations.IoRegistersReadAndWrite
  intro a v s hs
  have hreg {r : Word} (hr : isDeviceIo r = false) : readByte r s = stored r s :=
    readByte_of_not_drawn (drawn_of_not_device hr)
  refine ⟨⟨hreg rfl, rfl⟩, ⟨hreg rfl, rfl⟩, ⟨hreg rfl, rfl⟩, ⟨hreg rfl, rfl⟩, ⟨hreg rfl, rfl⟩, ⟨hreg rfl, rfl⟩,
    fun hlow hhigh hother => ?_⟩
  have hdev : isDeviceIo a = true := (isDeviceIo_iff a).2 ⟨hlow, hhigh, by simpa using hother⟩
  refine ⟨by rw [store_device v s hdev], ?_, read_device s hdev⟩
  exact stored_store_plain v hs.memCanonical ((isPlain_iff a).2 (.inr hdev))

/-- Every access to 0xE000 to 0xFEFF faults exactly under UNMAPPED_POLICY = Fault (R66). -/
theorem faulting_unmapped {a : Word} (s : State) (h1 : 0xE000 ≤ a.toNat) (h2 : a.toNat ≤ 0xFEFF) :
    faulting a s = decide (s.cfg.unmappedPolicy = .fault) := by
  simp [faulting, isUnmapped, h1, h2]

/-- Settles O12: the access faults or not as UNMAPPED_POLICY says; where it does not, nothing is stored there to read or write. -/
theorem unmappedRangeIsOpenBusOrFault : Obligations.UnmappedRangeIsOpenBusOrFault := by
  unfold Obligations.UnmappedRangeIsOpenBusOrFault
  intro a v s k k' h1 h2
  refine ⟨fun hp => ?_, fun hp => ?_⟩
  · have hopen : open_ a s := open_of_openBus hp a
    have hio : ¬ (0xFF00 ≤ a.toNat ∧ a.toNat ≤ 0xFF7F) := by omega
    rw [read8_open k hopen, write8_open v k' hopen, readByte_outside_io s hio, stored_unmapped s h1 h2,
      afterRead_of_not_drawn (drawn_outside_io s hio), store_unmapped v s h1 h2]
    exact ⟨rfl, rfl⟩
  · have hf (u : State) (hu : u.cfg = s.cfg) : faulting a u = true := by simp [faulting_unmapped u h1 h2, hu, hp]
    exact ⟨if_pos (hf s rfl), if_pos (hf s rfl), if_pos (hf (charge (.base 0xFA) 4 s) rfl)⟩

end Sys2Proof.Machine
end

section
/-! The mapper (R80 to R91): the registers, the two ROM windows and the RAM window, with their bank numbers as arithmetic. -/

namespace Sys2Proof.Machine

theorem readByte_rom {a : Word} (s : State) (h : a.toNat ≤ 0x7FFF) : readByte a s = s.cart.rom.read (romOffset a s) :=
  (readByte_outside_io s (by omega)).trans (stored_rom s h)

theorem readByte_window {a : Word} (s : State) (h1 : 0xA000 ≤ a.toNat) (h2 : a.toNat ≤ 0xBFFF) :
    readByte a s = if ramOpen s then s.cartRam.read (cartRamOffset a s) else 0xFF :=
  (readByte_outside_io s (by omega)).trans (stored_window s h1 h2)

/-- A closed RAM window reads 0xFF and discards writes (R88, R91). -/
theorem window_closed {a : Word} (v : Byte) {s : State} (h : ramOpen s = false) (h1 : 0xA000 ≤ a.toNat) (h2 : a.toNat ≤ 0xBFFF) :
    readByte a s = 0xFF ∧ store a v s = s := by
  simp [readByte_window s h1 h2, store_window v s h1 h2, h]

/-! ### The registers -/

theorem low_nibble_eq_iff (v : Byte) : v &&& 0x0F = 0x0A ↔ v.toNat % 16 = 10 := by
  rw [← BitVec.toNat_inj, BitVec.toNat_and]
  exact iff_of_eq (congrArg (· = 10) (Nat.and_two_pow_sub_one_eq_mod v.toNat 4))

/-- The low bits of a byte are its remainder. -/
theorem extractLsb'_zero_eq (v : Byte) (n : Nat) : v.extractLsb' 0 n = BitVec.ofNat n (v.toNat % 2 ^ n) := by
  apply BitVec.eq_of_toNat_eq
  simp

/-- Settles O13: each quarter of the range writes the one register of `mbc1Write`, whose bits are a remainder of the byte. -/
theorem mbc1RegistersLatch : Obligations.Mbc1RegistersLatch := by
  unfold Obligations.Mbc1RegistersLatch
  intro a v s hk
  have hstore (h : a.toNat ≤ 0x7FFF) : store a v s = mbc1Write a v s := by rw [store_rom v s h, if_pos hk]
  refine ⟨fun h => ?_, fun h1 h2 => ?_, fun h1 h2 => ?_, fun h1 h2 => ?_⟩
  · rw [hstore (by omega), mbc1Write, if_pos h]
    simp only [low_nibble_eq_iff]
  · have hzero : BitVec.ofNat 5 (v.toNat % 32) = 0 ↔ v.toNat % 32 = 0 := by
      rw [← BitVec.toNat_inj]
      simp
    rw [hstore (by omega), mbc1Write, if_neg (by omega), if_pos h2, extractLsb'_zero_eq]
    simp only [hzero, Nat.reducePow]
  · rw [hstore (by omega), mbc1Write, if_neg (by omega), if_neg (by omega), if_pos h2, extractLsb'_zero_eq]
    rfl
  · rw [hstore h2, mbc1Write, if_neg (by omega), if_neg (by omega), if_neg (by omega)]
    simp [BitVec.getLsbD, Nat.testBit_zero]

/-! ### The ROM windows -/

/-- Masking with `bankMask` or `ramMask` is the remainder modulo the bank count. -/
theorem and_lowMask (n bits : Nat) : n &&& ((1 <<< bits) - 1) = n % 2 ^ bits := by
  rw [Nat.one_shiftLeft, Nat.and_two_pow_sub_one_eq_mod]

theorem lowerBank_eq (s : State) :
    lowerBank s = if s.mode = .simple then 0 else s.secondary.toNat * 32 % 2 ^ s.cart.romBankBits := by
  unfold lowerBank
  cases s.mode with
  | simple => rfl
  | advanced => exact (and_lowMask _ _).trans (by rw [Nat.shiftLeft_eq]; rfl)

theorem upperBank_eq (s : State) : upperBank s = (s.secondary.toNat * 32 + s.primary.toNat) % 2 ^ s.cart.romBankBits := by
  rw [upperBank, ← Nat.shiftLeft_add_eq_or_of_lt s.primary.isLt, Cartridge.bankMask, and_lowMask, Nat.shiftLeft_eq]

/-- A byte of a bank below the bank count is inside the image (R87). -/
theorem romBank_offset_lt {c : Cartridge} {bank n : Nat} (hb : bank < 2 ^ c.romBankBits) (hn : n < 0x4000) :
    bank * 0x4000 + n < 0x8000 * 2 ^ c.romSize.val := by
  rw [Cartridge.romBankBits, Nat.pow_add] at hb
  omega

/-- Settles O14: both banks are remainders modulo the bank count, so below it. -/
theorem mbc1RomWindowsFollowTheBanks : Obligations.Mbc1RomWindowsFollowTheBanks := by
  unfold Obligations.Mbc1RomWindowsFollowTheBanks
  intro a s hk
  have hpos : 0 < 2 ^ s.cart.romBankBits := Nat.two_pow_pos _
  refine ⟨fun h => ⟨?_, ?_⟩, fun h1 h2 => ⟨?_, ?_⟩⟩
  · rw [readByte_rom s (by omega), romOffset, hk, ← lowerBank_eq]
    simp only [if_pos h]
  · refine romBank_offset_lt ?_ (by omega)
    split
    · exact hpos
    · exact Nat.mod_lt _ hpos
  · rw [readByte_rom s h2, romOffset, hk, ← upperBank_eq]
    simp only [if_neg (show ¬ a.toNat ≤ 0x3FFF by omega)]
  · exact romBank_offset_lt (Nat.mod_lt _ hpos) (by omega)

/-! ### The RAM window -/

theorem ramBank_eq (s : State) :
    ramBank s = if s.mode = .simple then 0 else s.secondary.toNat % 2 ^ s.cart.ramSize.bankBits := by
  unfold ramBank
  cases s.mode with
  | simple => rfl
  | advanced => exact and_lowMask _ _

theorem cartRamOffset_of_bank (a : Word) (s : State) : cartRamOffset a s =
    (if s.mode = .simple then 0 else s.secondary.toNat % 2 ^ s.cart.ramSize.bankBits) * 0x2000 + (a.toNat - 0xA000) :=
  congrArg (· * 0x2000 + (a.toNat - 0xA000)) (ramBank_eq s)

/-- Settles O15: the window is open exactly while RAM is there and enabled; open, it is one byte of RAM, in canonical form by the
invariant. -/
theorem cartridgeRamFollowsEnableAndBank : Obligations.CartridgeRamFollowsEnableAndBank := by
  unfold Obligations.CartridgeRamFollowsEnableAndBank
  intro a v s hs hk h1 h2 bank offset
  rw [show offset = cartRamOffset a s from (cartRamOffset_of_bank a s).symm]
  refine ⟨fun hclosed => window_closed v ?_ h1 h2, fun hen hram => ?_⟩
  · obtain hen | hram := hclosed
    · simp [ramOpen, hen]
    · simp [ramOpen, hram]
  · have hopen : ramOpen s = true := by simp [ramOpen, hk, hen, hram]
    have hstore : store a v s = { s with cartRam := s.cartRam.write (cartRamOffset a s) v } := by
      rw [store_window v s h1 h2, if_pos hopen]
    refine ⟨by rw [readByte_window s h1 h2, if_pos hopen], hstore, ?_, cartRamOffset_lt hopen h1 h2⟩
    rw [hstore, readByte_window _ h1 h2, if_pos (ramOpen_eq rfl rfl ▸ hopen)]
    exact Memory.read_write _ v hs.cartRamCanonical

/-- Settles O16: without a mapper the offset is the address, a write below 0x8000 is no register's, and the RAM window is closed. -/
theorem romOnlyCartridgeHasNoMapper : Obligations.RomOnlyCartridgeHasNoMapper := by
  unfold Obligations.RomOnlyCartridgeHasNoMapper
  intro a v s hk
  refine ⟨fun h => ⟨?_, ?_⟩, window_closed v (by simp [ramOpen, hk])⟩
  · rw [readByte_rom s h, romOffset, hk]
  · simp [store_rom v s h, hk]

end Sys2Proof.Machine
end

section
/-! The load (R94 to R97): what each header byte says, and what a cartridge loaded from an image is. -/

namespace Sys2Proof.Machine

/-- The cartridge-type byte (R97). -/
theorem mapperOfType_eq_some {code : Byte} {kind : MapperKind} :
    mapperOfType code = some kind ↔ code.toNat ≤ 3 ∧ kind = if code = 0 then .romOnly else .mbc1 := by
  have hle : code.toNat ≤ 3 ↔ code = 0 ∨ code = 1 ∨ code = 2 ∨ code = 3 := by
    bv_omega
  rw [hle, mapperOfType]
  by_cases h0 : code = 0
  · rw [if_pos h0, if_pos h0, Option.some_inj, eq_comm]
    exact (and_iff_right (.inl h0)).symm
  · rw [if_neg h0, if_neg h0, Option.ite_none_right_eq_some, Option.some_inj, or_iff_right h0, @eq_comm _ kind]
    simp only [Bool.or_eq_true, decide_eq_true_eq, or_assoc]

/-- The RAM-size byte (R96); its five sizes differ. -/
theorem ramSizeOfCode_eq_some {code : Byte} {ram : RamSize} : ramSizeOfCode code = some ram ↔
    (code = 0x00 ∧ ram.bytes = 0) ∨ (code = 0x02 ∧ ram.bytes = 0x2000) ∨ (code = 0x03 ∧ ram.bytes = 0x8000) ∨
    (code = 0x04 ∧ ram.bytes = 0x20000) ∨ (code = 0x05 ∧ ram.bytes = 0x10000) := by
  unfold ramSizeOfCode
  split_ifs with h0 h2 h3 h4 h5
  case neg => exact ⟨nofun, by rintro (⟨h, -⟩ | ⟨h, -⟩ | ⟨h, -⟩ | ⟨h, -⟩ | ⟨h, -⟩) <;> contradiction⟩
  all_goals subst code; cases ram <;> simp [RamSize.bytes]

/-- Exactly when an image loads, and as what. -/
theorem loadCartridge_eq_ok {img : Image} {cart : Cartridge} : loadCartridge img = .ok cart ↔
    mapperOfType (img.bytes.read 0x0147) = some cart.kind ∧ (img.bytes.read 0x0148).toNat = cart.romSize.val ∧
    img.length = cart.romBytes ∧ ramSizeOfCode (img.bytes.read 0x0149) = some cart.ramSize ∧ cart.rom = img.bytes := by
  obtain ⟨kind, romSize, ramSize, rom⟩ := cart
  constructor
  · intro h
    simp only [loadCartridge] at h
    split at h
    · cases h
    rename_i hkind
    split_ifs at h with hsize hlen
    split at h
    · cases h
    rename_i hram
    cases h
    exact ⟨hkind, rfl, hlen, hram, rfl⟩
  · rintro ⟨hkind, hsize, hlen, hram, rfl⟩
    simp only [Cartridge.romBytes] at hlen
    simp [loadCartridge, hkind, hlen, hram, hsize]

/-- Settles O4: the tests of the load are the header's four conditions; any other image is refused, and so is its power-on. -/
theorem imageLoadsExactlyWhenTheHeaderIsKnown : Obligations.ImageLoadsExactlyWhenTheHeaderIsKnown := by
  unfold Obligations.ImageLoadsExactlyWhenTheHeaderIsKnown
  refine ⟨fun img cart => ?_, fun cfg img ram cartRam env hrefused => ?_⟩
  · have hbound := cart.romSize.isLt
    have hbits : cart.romBankBits = 1 + (img.bytes.read 0x0148).toNat ↔ (img.bytes.read 0x0148).toNat = cart.romSize.val := by
      rw [Cartridge.romBankBits]
      omega
    rw [loadCartridge_eq_ok, mapperOfType_eq_some, ramSizeOfCode_eq_some, Cartridge.romBytes, Nat.shiftLeft_eq, hbits]
    constructor
    · rintro ⟨⟨htype, hkind⟩, hsize, hlen, hram, hrom⟩
      exact ⟨htype, by omega, hsize ▸ hlen, hkind, hsize, hrom, hram⟩
    · rintro ⟨htype, -, hlen, hkind, hsize, hrom, hram⟩
      exact ⟨⟨htype, hkind⟩, hsize, hsize ▸ hlen, hram, hrom⟩
  · unfold powerOn
    cases h : loadCartridge img with
    | error why => exact ⟨why, rfl⟩
    | ok cart => exact absurd h (hrefused cart)

end Sys2Proof.Machine
end

section
/-! The memory frame of every instruction (R63, R64, R75, R80 to R84): a shape stores at its targets only, because it goes through
`store`, `put` and `pushed`, or leaves alone all that a read and a frame depend on. -/

namespace Sys2Proof.Machine

/-- The fields a memory frame depends on: the cartridge and its mapper, the arrays, the memory-mapped registers, the
accumulators. -/
def frameFields (s : State) : (Cartridge × Bool × BitVec 5 × BitVec 2 × BankMode) × (Memory × Memory) ×
    (BitVec 16 × Byte × Byte × Byte × Byte × Byte) × Nat × Nat :=
  ((s.cart, s.ramEnabled, s.primary, s.secondary, s.mode), (s.mem, s.cartRam), mappedRegs s, s.divAccum, s.timerAccum)

/-- With those fields unchanged, nothing was stored. -/
theorem OnlyAt.nil {s t : State} (e : frameFields t = frameFields s) : OnlyAt [] s t := by
  simp only [frameFields, mappedRegs, Prod.mk.injEq] at e
  obtain ⟨⟨hcart, hen, hprim, hsec, hmode⟩, ⟨hmem, hram⟩, ⟨hdiv, htima, htma, htac, hif, hie⟩, hda, hta⟩ := e
  exact .of_sameBus ⟨hcart, hen, hprim, hsec, hmode, hmem, hram, hie, hif, hdiv, htima, htma, htac⟩ hda hta

theorem OnlyAt.of_fields {T : List Word} {s t u : State} (h : OnlyAt T s t) (e : frameFields u = frameFields t) : OnlyAt T s u := by
  simpa using h.trans (.nil e)

theorem OnlyAt.after {T : List Word} {s t u : State} (h : OnlyAt T t u) (e : frameFields t = frameFields s) : OnlyAt T s u :=
  (OnlyAt.nil e).trans h

/-- An operand written after one is read: the read moves no address (R124). -/
theorem OnlyAt.afterOpnd_put (d r : R8) (v : Byte) (s : State) : OnlyAt (opndTargets d s) s (Machine.put d v (afterOpnd r s)) := by
  have hT : opndTargets d (afterOpnd r s) = opndTargets d s := by
    unfold opndTargets
    rw [regHL_eq (s := s) (afterOpnd_h s r) (afterOpnd_l s r)]
  exact hT ▸ (OnlyAt.put d v (afterOpnd r s)).after (by simp [frameFields, mappedRegs])

/-- The operand a shape writes back, if it is one that may be the byte at HL. -/
def Shape.dest : Shape → Option R8
  | .copy d _ | .loadImm8 d _ | .inc d | .dec d | .cbShift _ d | .cbRes _ d | .cbSet _ d => some d
  | _ => none

/-- Such a shape stores where its operand lies. -/
theorem Shape.targets_of_dest {sh : Shape} {d : R8} (h : sh.dest = some d) (s : State) : sh.targets s = opndTargets d s := by
  cases sh <;> cases h <;> cases d <;> rfl

/-- HALT stores nothing, on each of its paths (R332). -/
theorem halt_onlyAt (s : State) : Yields (OnlyAt [] s) (halt s) := by
  unfold halt
  split
  · split <;> exact yields_next.2 (.nil rfl)
  · exact yields_next.2 (.nil rfl)

/-- A conditional form stores what its taken branch stores, or nothing. -/
theorem OnlyAt.branchIf {T : List Word} {cc : Cond} {x : Slot} {base taken : Nat} {s : State} {k : State → Out}
    (hk : Yields (OnlyAt T s) (k (chargeTaken x taken s))) :
    Yields (OnlyAt (if cond cc s then T else []) s) (Machine.branchIf cc x base taken s k) := by
  intro t ht
  obtain ⟨hcc, hkt⟩ | ⟨hcc, rfl⟩ := branchIf_next.1 ht
  · rw [if_pos hcc]
    exact hk t hkt
  · rw [hcc]
    exact .nil rfl

/-- Every shape stores at its targets only; the slot 0xCB by itself runs the shape of another row (log 9). -/
theorem Shape.run_onlyAt (x : Slot) (base taken : Nat) (s : State) {sh : Shape} (hsh : sh ≠ .prefixCb) :
    Yields (OnlyAt (sh.targets s) s) (sh.run x base taken s) := by
  have charged {T : List Word} {t : State} (h : OnlyAt T (charge x base s) t) : OnlyAt T s t := h.after rfl
  have written {d : R8} {t : State} (hd : sh.dest = some d) (h : OnlyAt (opndTargets d (charge x base s)) (charge x base s) t) :
      OnlyAt (sh.targets s) s t := by
    rw [targets_of_dest hd, show opndTargets d s = opndTargets d (charge x base s) by cases d <;> rfl]
    exact charged h
  have hpush {v : Word} {u : State} (hsp : u.sp = s.sp) (e : frameFields u = frameFields s) :
      OnlyAt [s.sp - 2, s.sp - 2 + 1] s (pushed v u) := hsp ▸ (OnlyAt.pushed v u).after e
  have quiet {o : Out} (h : Yields (fun t => frameFields t = frameFields s) o) : Yields (OnlyAt [] s) o :=
    fun t ht => .nil (h t ht)
  cases sh with
  | copy d r =>
    intro t ht
    obtain ⟨-, -, rfl⟩ := copyR8_next.1 ht
    exact written rfl (.afterOpnd_put d r _ _)
  | loadImm8 d n => exact .of_eq loadImm8_next (written rfl (.put d n _))
  | inc d => exact .of_eq incR8_next (written rfl ((OnlyAt.afterOpnd_put d d _ _).of_fields rfl))
  | dec d => exact .of_eq decR8_next (written rfl ((OnlyAt.afterOpnd_put d d _ _).of_fields rfl))
  | cbShift op d => exact .of_eq cbShift_next (written rfl ((OnlyAt.afterOpnd_put d d _ _).of_fields rfl))
  | cbRes b d => exact .of_eq cbRes_next (written rfl (.afterOpnd_put d d _ _))
  | cbSet b d => exact .of_eq cbSet_next (written rfl (.afterOpnd_put d d _ _))
  | storeA form => exact .of_eq storeA_next (charged (.store _ _ _))
  | storeAHL delta => exact .of_eq storeAThenHL_next (charged ((OnlyAt.store _ _ _).of_fields rfl))
  | storeSP nn => exact .of_eq storeSP_next (charged ((OnlyAt.store _ _ _).trans (.store _ _ _)))
  | push r => exact .of_eq pushPair_next (hpush rfl rfl)
  | call | rst => exact .of_eq call_next ((hpush (u := charge x base s) rfl rfl).of_fields rfl)
  | callIf cc nn =>
    have htaken : Yields (OnlyAt [s.sp - 2, s.sp - 2 + 1] s) (Machine.call nn (chargeTaken x taken s)) :=
      .of_eq call_next ((hpush (u := chargeTaken x taken s) rfl rfl).of_fields rfl)
    exact OnlyAt.branchIf htaken
  | loadA | loadAHL | pop =>
    exact quiet (by simp [Yields, Shape.run, frameFields, mappedRegs, loadA_next, loadAThenHL_next, popPair_next])
  | alu | cbBit =>
    exact quiet (by simp [Yields, Shape.run, frameFields, mappedRegs, aluR8_next, aluApply, cbBit_next])
  | ret | reti | di =>
    exact quiet (by
      simp [Yields, Shape.run, frameFields, mappedRegs, ret_next, returnFromInterrupt_next, disableInterrupts_next])
  | retIf =>
    refine quiet (.branchIf ?_ rfl)
    simp [Yields, frameFields, mappedRegs, ret_next]
  | loadImm16 | incPair | decPair => exact yields_next.2 (.nil (by simp [frameFields, mappedRegs]))
  | aluImm | daa | cpl | scf | ccf | addHL | addSP | loadHLSP | rotA | noOp | loadSPHL | jp | jpHL | jr =>
    exact yields_next.2 (.nil rfl)
  | jpIf | jrIf => exact Yields.branchIf (yields_next.2 (.nil rfl)) (.nil rfl)
  | stop n =>
    intro t ht
    obtain ⟨-, rfl⟩ | ⟨-, rfl⟩ := (stop_next (n := n)).1 ht <;> exact .nil rfl
  | ei =>
    intro t ht
    obtain ⟨-, rfl⟩ | ⟨-, rfl⟩ := enableInterrupts_next.1 ht <;> exact .nil rfl
  | halt => exact fun t ht => charged (halt_onlyAt _ t ht)
  | prefixCb => exact absurd rfl hsh

/-- Settles O56: an instruction's targets are its shape's, and every shape stores at its targets only. -/
theorem storesStayAtTheirTargets : Obligations.StoresStayAtTheirTargets := by
  unfold Obligations.StoresStayAtTheirTargets
  intro i s t hi h
  have hsh : (rowOf i).1 ≠ .prefixCb := fun e => hi (eq_of_controlRow (e ▸ rfl))
  rw [exec_eq_run] at h
  rw [storeTargets_eq]
  obtain ⟨hcart, houtside, hnoRom, hnoRam, hnoDiv, hnone, hda, hta⟩ := Shape.run_onlyAt _ _ _ s hsh t h
  exact ⟨hcart, houtside, hnoRom, hnoRam, hnoDiv, hnone, hda, hta⟩

end Sys2Proof.Machine
end

section
/-! The encoder and the decoder (R120 to R135): decoding gives back what was encoded, the encoder follows the table's formats, and
every byte sequence decodes at the length of its first byte. -/

namespace Sys2Proof.Machine

open Laws.EncodedLength (announced)

/-! ### Decoding an encoding -/

/-- A three-byte instruction, read back from its opcode and its word, low byte first (R128, R132). -/
theorem decode_word {row : Word → Instr} {op : Byte} (hlen : lengthOf op = .three)
    (hrow : ∀ b1 b2, decodeBytes op b1 b2 = row (wordOf b2 b1)) (nn : Word) (rest : List Byte) :
    decode (op :: loByte nn :: hiByte nn :: rest) = .ok (row nn, rest) := by
  simp only [decode, hlen, hrow, wordOf_hi_lo]

/-- A whole instruction decodes from its encoding, whatever stands after it: the opcode and a byte operand are read as they stand,
a word is put together again from its two bytes. -/
theorem decode_encode_append {i : Instr} (hi : i.wellFormed = true) (rest : List Byte) :
    decode (encode i ++ rest) = .ok (i, rest) := by
  cases i with
  | prefix_CB => cases hi
  | ld_BC_u16 nn | ld_DE_u16 nn | ld_HL_u16 nn | ld_SP_u16 nn | ld_mU16_SP nn | ld_mU16_A nn | ld_A_mU16 nn
  | jp_u16 nn | jp_NZ_u16 nn | jp_Z_u16 nn | jp_NC_u16 nn | jp_C_u16 nn
  | call_u16 nn | call_NZ_u16 nn | call_Z_u16 nn | call_NC_u16 nn | call_C_u16 nn =>
    exact decode_word rfl (fun _ _ => rfl) nn rest
  | _ => rfl

/-- Settles O7, instruction by instruction. -/
theorem decodeOfEncodeIsTheInstruction : Obligations.DecodeOfEncodeIsTheInstruction := by
  unfold Obligations.DecodeOfEncodeIsTheInstruction
  exact fun _ rest hi => decode_encode_append hi rest

/-- No two whole instructions have one encoding. -/
theorem encode_injective {i j : Instr} (hi : i.wellFormed = true) (hj : j.wellFormed = true) (h : encode i = encode j) : i = j := by
  have hdec := decode_encode_append hi []
  rw [h, decode_encode_append hj] at hdec
  cases hdec
  rfl

/-! ### The formats (R129 to R131, R134) -/

/-- Settles O6: in each format the encoder's byte is the format's, code by code of its fields, whatever the immediate is. -/
theorem opcodesFollowTheFormats : Obligations.OpcodesFollowTheFormats := by
  unfold Obligations.OpcodesFollowTheFormats
  refine ⟨?ld, ?oneOperand, ?alu, ?pair, ?stack, ?condition, ?rst, ?cb, ?fixed, ?fixedByte, ?fixedWord⟩
  case ld => intro d r _; cases d <;> cases r <;> rfl
  case oneOperand => intro d n; cases d <;> exact ⟨rfl, rfl, rfl⟩
  case alu => intro op r n; cases op <;> cases r <;> exact ⟨rfl, rfl⟩
  case pair => intro p nn; cases p <;> exact ⟨rfl, rfl, rfl, rfl⟩
  case stack => intro p; cases p <;> exact ⟨rfl, rfl⟩
  case condition => intro cc e nn; cases cc <;> exact ⟨rfl, rfl, rfl, rfl⟩
  case rst => intro t; cases t <;> rfl
  case cb =>
    refine fun op b r => ⟨?_, ?_⟩
    · cases op <;> cases r <;> rfl
    · cases b <;> cases r <;> exact ⟨rfl, rfl, rfl⟩
  case fixed => decide
  case fixedByte => exact fun n => ⟨rfl, rfl, rfl, rfl, rfl, rfl⟩
  case fixedWord =>
    simp only [List.forall_mem_cons]
    exact ⟨fun _ => rfl, fun _ => rfl, fun _ => rfl, fun _ => rfl, fun _ => rfl, List.forall_mem_nil _⟩

/-! ### Every byte sequence (R120, R133, R135) -/

/-- The eleven unused slots of R133. -/
def unusedSlots : List Instr :=
  [.unused_D3, .unused_DB, .unused_DD, .unused_E3, .unused_E4, .unused_EB, .unused_EC, .unused_ED, .unused_F4, .unused_FC,
    .unused_FD]

/-- The eleven opcodes of R133. -/
def unusedOpcodes : List Byte := [0xD3, 0xDB, 0xDD, 0xE3, 0xE4, 0xEB, 0xEC, 0xED, 0xF4, 0xFC, 0xFD]

/-- An unused slot is a whole instruction and encodes to one of the eleven opcodes alone. -/
theorem encode_of_unused : ∀ i ∈ unusedSlots, i.wellFormed = true ∧ ∃ op ∈ unusedOpcodes, encode i = [op] := by decide

/-- Each of the eleven opcodes is the encoding of an unused slot. -/
theorem unused_of_opcode : ∀ op ∈ unusedOpcodes, ∃ i ∈ unusedSlots, encode i = [op] := by decide

theorem announced_unused : ∀ op ∈ unusedOpcodes, announced op = 1 := by decide

theorem announced_cases (op : Byte) : announced op = 1 ∨ announced op = 2 ∨ announced op = 3 := by
  unfold announced
  cases lengthOf op <;> simp

/-- An instruction encoded from the opcode `op` on is an unused slot exactly when `op` is one of the eleven. -/
theorem mem_unusedSlots_iff {i : Instr} {op : Byte} {rest : List Byte} (hi : i.wellFormed = true)
    (henc : encode i = (op :: rest).take (announced op)) : i ∈ unusedSlots ↔ op ∈ unusedOpcodes := by
  constructor
  · intro hmem
    obtain ⟨-, op', hop', henc'⟩ := encode_of_unused i hmem
    have hhead : op = op' := by
      have h := congrArg List.head? (henc.symm.trans henc')
      obtain hn | hn | hn := announced_cases op <;> simpa [hn] using h
    exact hhead ▸ hop'
  · intro hop
    obtain ⟨j, hj, hencj⟩ := unused_of_opcode op hop
    rw [announced_unused op hop] at henc
    exact encode_injective hi (encode_of_unused j hj).1 (henc.trans hencj.symm) ▸ hj

/-- With two bytes after the opcode, the decoder reads as many as the opcode announces, and what it reads encodes to them. -/
theorem decode_announced (op b1 b2 : Byte) (rest : List Byte) :
    ∃ i, decode (op :: b1 :: b2 :: rest) = .ok (i, (op :: b1 :: b2 :: rest).drop (announced op)) ∧
      encode i = (op :: b1 :: b2 :: rest).take (announced op) ∧ i.wellFormed = true := by
  have hread (c1 c2 : Byte) := And.intro (encode_decodeBytes op c1 c2) (wellFormed_decodeBytes op c1 c2)
  unfold announced at hread ⊢
  unfold decode
  cases hlen : lengthOf op <;> simp only [hlen] at hread ⊢
  · exact ⟨_, rfl, hread 0 0⟩
  · exact ⟨_, rfl, hread b1 0⟩
  · exact ⟨_, rfl, hread b1 b2⟩

/-- Settles O8: the length is the one the opcode announces. -/
theorem everyByteSequenceDecodesAtItsLength : Obligations.EveryByteSequenceDecodesAtItsLength := by
  unfold Obligations.EveryByteSequenceDecodesAtItsLength
  refine fun op => ⟨announced op, announced_cases op, fun hop => hop ▸ rfl, announced_unused op, fun b1 b2 rest => ?_⟩
  obtain ⟨i, hdec, henc, hi⟩ := decode_announced op b1 b2 rest
  exact ⟨i, hdec, henc, hi, mem_unusedSlots_iff hi henc⟩

/-! ### The decoded instruction runs (R121, R370, R390, R391) -/

theorem andThen_assoc (o : Out) (f g : State → Out) : andThen (andThen o f) g = andThen o fun t => andThen (f t) g := by
  cases o <;> rfl

/-- A step of the machine is the engine's, then the timers, then the environment, faults passed on. -/
theorem step_eq (s : State) : step s = andThen (engineStep exec s) fun u => .next (envTurn (advanceTimers u.cycles u)) :=
  andThen_assoc _ _ _

theorem settleEi_eiArmed (s t : State) : settleEi (eiArmed s) t =
    if s.cfg.eiDelay = .oneInstruction ∧ s.eiPending = true ∧ t.eiPending = true then
      { t with ime := true, eiPending := false } else t := by
  simp [settleEi, eiArmed, and_assoc]

/-- Settles O9: the engine's step at an instruction, followed by the timers and the environment. -/
theorem stepRunsTheDecodedInstruction : Obligations.StepRunsTheDecodedInstruction := by
  unfold Obligations.StepRunsTheDecodedInstruction
  intro s i h
  simp only [step_eq, engineStep_at h, andThen_assoc, andThen_of_next, settleEi_eiArmed]

/-! ### The slot 0xCB taken by itself (R121, R134, R339) -/

theorem fieldQuadrant_cases (op : Byte) :
    fieldQuadrant op = 0 ∨ fieldQuadrant op = 1 ∨ fieldQuadrant op = 2 ∨ fieldQuadrant op = 3 := by
  have : fieldQuadrant op < 4 := BitVec.isLt _
  omega

theorem cbCost_eq (op : Byte) : cbCost op = byOperand (r8Of (fieldLow op)) 2 (if fieldQuadrant op = 1 then 3 else 4) := by
  unfold cbCost
  cases r8Of (fieldLow op) <;> rfl

/-- The instruction the decoder reads from the CB table does what `cbOperate` does from the same byte's fields, at the same cost. -/
theorem exec_decodeCb (op : Byte) (s : State) : exec (decodeCb op) s = cbOperate op s := by
  have hslot : slotOf (decodeCb op) = .cb op := by simp [slotOf, encode_decodeCb]
  rw [cbOperate, cbCost_eq]
  unfold decodeCb at hslot ⊢
  obtain hq | hq | hq | hq := fieldQuadrant_cases op <;> simp only [hq] at hslot ⊢
  · rw [exec_shiftRow, hslot]; rfl
  · rw [exec_bitRow, hslot]; rfl
  · rw [exec_resRow, hslot]; rfl
  · rw [exec_setRow, hslot]; rfl

/-- With the byte at HL open, every instruction of the CB table has a next state. -/
theorem cbOperate_total (op : Byte) {s : State} (h : open_ (regHL s) s) : ∃ t, cbOperate op s = .next t := by
  have hopen : opndOpen (r8Of (fieldLow op)) (charge (.cb op) (cbCost op) s) := fun _ => h
  unfold cbOperate
  split
  · exact ⟨_, cbShift_next.2 ⟨hopen, rfl⟩⟩
  · exact ⟨_, cbBit_next.2 ⟨hopen, rfl⟩⟩
  · exact ⟨_, cbRes_next.2 ⟨hopen, rfl⟩⟩
  · exact ⟨_, cbSet_next.2 ⟨hopen, rfl⟩⟩

/-- Settles O46: the slot fetches one byte, and the CB table's operation at it is exec of the instruction decoded there. -/
theorem prefixSlotRunsTheCbInstruction : Obligations.PrefixSlotRunsTheCbInstruction := by
  unfold Obligations.PrefixSlotRunsTheCbInstruction
  intro s hpc hHL
  have hfetch : exec .prefix_CB s = cbOperate (readByte s.pc s) (setPC (s.pc + 1) (afterRead s.pc s)) := by
    rw [show exec .prefix_CB s = fetch8 s cbOperate from rfl, fetch8, read8_open _ hpc, afterRead_pc]
  have hopen : open_ (regHL (setPC (s.pc + 1) (afterRead s.pc s))) (setPC (s.pc + 1) (afterRead s.pc s)) := by
    rwa [open_setPC, open_afterRead, regHL_eq (s := s) (by simp) (by simp)]
  obtain ⟨t, ht⟩ := cbOperate_total (readByte s.pc s) hopen
  exact ⟨decodeCb (readByte s.pc s), t, rfl, (exec_decodeCb _ _).trans ht, hfetch.trans ht⟩

end Sys2Proof.Machine
end

section
/-! Loads, stores and stack transfers (R160 to R183). The Step's count does not enter an operation's effect: each operation here is
given once, run with the count already charged, as its effect with that count. -/

namespace Sys2Proof.Machine

section
variable {s : State} (c : Nat)

theorem copyR8_recount {d r : R8} (hd : opndOpen d s) (hr : opndOpen r s) :
    copyR8 d r (recount c s) = .next (recount c (put d (opnd r s) (afterOpnd r s))) :=
  copyR8_next.2 ⟨hr, by simpa using hd, by simp⟩

theorem loadImm8_recount {d : R8} (n : Byte) (hd : opndOpen d s) :
    loadImm8 d n (recount c s) = .next (recount c (put d n s)) :=
  loadImm8_next.2 ⟨hd, by simp⟩

theorem loadA_recount {addr : Word} (h : open_ addr s) :
    loadA addr (recount c s) = .next (recount c { afterRead addr s with a := readByte addr s }) :=
  loadA_next.2 ⟨h, by rw [afterRead_recount, readByte_recount]; rfl⟩

theorem storeA_recount {addr : Word} (h : open_ addr s) :
    storeA addr (recount c s) = .next (recount c (store addr s.a s)) :=
  storeA_next.2 ⟨h, store_recount c s addr s.a⟩

theorem storeAThenHL_recount (delta : Word) (h : open_ (regHL s) s) :
    storeAThenHL delta (recount c s) = .next (recount c (setHL (regHL s + delta) (store (regHL s) s.a s))) :=
  storeAThenHL_next.2 ⟨h, congrArg (setHL (regHL s + delta)) (store_recount c s (regHL s) s.a)⟩

theorem loadAThenHL_recount (delta : Word) (h : open_ (regHL s) s) :
    loadAThenHL delta (recount c s) =
      .next (recount c { setHL (regHL s + delta) (afterRead (regHL s) s) with a := readByte (regHL s) s }) :=
  loadAThenHL_next.2 ⟨h, by rw [regHL_recount, afterRead_recount, readByte_recount]; rfl⟩

theorem storeSP_recount {nn : Word} (hlo : open_ nn s) (hhi : open_ (nn + 1) s) :
    storeSP nn (recount c s) = .next (recount c (store (nn + 1) (hiByte s.sp) (store nn (loByte s.sp) s))) :=
  storeSP_next.2 ⟨⟨hlo, hhi⟩, by rw [store_recount, store_recount]; rfl⟩

theorem pushPair_recount_next {r : R16Stk} {t : State} :
    pushPair r (recount c s) = .next t ↔ pushOpen s ∧ recount c (pushed (readStk r s) s) = t := by
  simp [pushPair_next]

theorem popPair_recount_next {r : R16Stk} {t : State} :
    popPair r (recount c s) = .next t ↔ popOpen s ∧ recount c (writeStk r (popped s) (afterPop s)) = t := by
  simp [popPair_next]

theorem call_recount_next {nn : Word} {t : State} :
    call nn (recount c s) = .next t ↔ pushOpen s ∧ recount c (setPC nn (pushed s.pc s)) = t := by
  rw [call_next, ← setPC_recount, ← pushed_recount]
  exact Iff.rfl

theorem ret_recount_next {t : State} :
    ret (recount c s) = .next t ↔ popOpen s ∧ recount c (setPC (popped s) (afterPop s)) = t := by
  simp [ret_next]

end

/-! ### One byte (R160 to R178) -/

/-- Settles O17: the rows are `copyR8` and `loadImm8` at the operands' codes. -/
theorem loadMovesOneByte : Obligations.LoadMovesOneByte := by
  unfold Obligations.LoadMovesOneByte
  exact fun d r n s hd => ⟨fun hne hr => (exec_ldRow d r hne s).trans (copyR8_recount _ hd hr),
    (exec_ldImmRow d n s).trans (loadImm8_recount _ n hd)⟩

/-- A high-page address as a sum (R171 to R174). -/
theorem highPage_eq (n : Byte) : highPage n = 0xFF00 + n.setWidth 16 := by
  apply BitVec.eq_of_toNat_eq
  rw [highPage, wordOf_toNat]
  bv_omega

/-- Settles O18: each of the five forms is `loadA` and `storeA` at its address. -/
theorem accumulatorLoadsAndStores : Obligations.AccumulatorLoadsAndStores := by
  unfold Obligations.AccumulatorLoadsAndStores
  intro s ld st addr dflt hform hopen
  have hrow : exec ld s = loadA addr (recount (costOf ld dflt s) s) ∧ exec st s = storeA addr (recount (costOf st dflt s) s) := by
    simp only [List.mem_cons, List.not_mem_nil, or_false, Prod.mk.injEq] at hform
    obtain (⟨rfl, rfl, rfl, rfl⟩ | ⟨rfl, rfl, rfl, rfl⟩ | ⟨rfl, rfl, haddr, rfl⟩) | ⟨nn, rfl, rfl, rfl, rfl⟩ |
      ⟨n, rfl, rfl, haddr, rfl⟩ := hform
    case inl.inr.inr | inr.inr => rw [haddr, ← highPage_eq]; exact ⟨rfl, rfl⟩
    all_goals exact ⟨rfl, rfl⟩
  obtain ⟨hload, hstore⟩ := hrow
  exact ⟨hload.trans (loadA_recount _ hopen), hstore.trans (storeA_recount _ hopen)⟩

/-- Settles O19: the four rows are `storeAThenHL` and `loadAThenHL` with HL moving by 1 or by -1. -/
theorem hlStepsAfterTheAccess : Obligations.HlStepsAfterTheAccess := by
  unfold Obligations.HlStepsAfterTheAccess
  intro s hopen
  simp only [BitVec.sub_eq_add_neg]
  exact ⟨storeAThenHL_recount _ 1 hopen, storeAThenHL_recount _ (-1) hopen, loadAThenHL_recount _ 1 hopen,
    loadAThenHL_recount _ (-1) hopen⟩

/-! ### Words and the stack (R179 to R183) -/

/-- Settles O20: LD (u16),SP is `storeSP`; the other rows write a pair or SP, each by its definition. -/
theorem loadPairImmediateAndSp : Obligations.LoadPairImmediateAndSp := by
  unfold Obligations.LoadPairImmediateAndSp
  exact fun nn s => ⟨rfl, rfl, rfl, rfl, rfl, fun hlo hhi => storeSP_recount _ hlo hhi⟩

/-- Settles O21: the rows are `pushPair` at the four pairs. -/
theorem pushStoresThePair : Obligations.PushStoresThePair := by
  unfold Obligations.PushStoresThePair
  intro s h
  have hpush (r : R16Stk) (c : Nat) : pushPair r (recount c s) = .next (recount c (pushed (readStk r s) s)) :=
    (pushPair_recount_next c).2 ⟨h, rfl⟩
  exact ⟨hpush .BC _, hpush .DE _, hpush .HL _, hpush .AF _⟩

/-- Settles O22: the rows are `popPair` at the four pairs. -/
theorem popLoadsThePair : Obligations.PopLoadsThePair := by
  unfold Obligations.PopLoadsThePair
  intro s h
  have hpop (r : R16Stk) (c : Nat) : popPair r (recount c s) = .next (recount c (writeStk r (popped s) (afterPop s))) :=
    (popPair_recount_next c).2 ⟨h, rfl⟩
  exact ⟨hpop .BC _, hpop .DE _, hpop .HL _, hpop .AF _⟩

/-! ### Round trips (R181, R182, R305 to R310) -/

/-- A plain address lies outside ROM. -/
theorem le_toNat_of_plain {addr : Word} (h : isPlain addr = true) : 0x8000 ≤ addr.toNat := by
  rw [isPlain_iff, isDeviceIo_iff] at h
  omega

/-- The two bytes of a push in plain storage (R64). -/
theorem stored_pushed {s : State} (v : Word) (hmem : s.mem.wf = true) (hlo : isPlain (s.sp - 2) = true)
    (hhi : isPlain (s.sp - 2 + 1) = true) :
    stored (s.sp - 2) (pushed v s) = loByte v ∧ stored (s.sp - 2 + 1) (pushed v s) = hiByte v := by
  have hne : s.sp - 2 ≠ s.sp - 2 + 1 := by simp
  have hmem' : (store (s.sp - 2) (loByte v) { s with sp := s.sp - 2 }).mem.wf = true := by
    rw [store_plain _ _ hlo]
    exact Memory.wf_write _ _ hmem
  unfold pushed
  exact ⟨(stored_store_other _ _ (le_toNat_of_plain hhi) hne).trans (stored_store_plain _ hmem hlo),
    stored_store_plain _ hmem' hhi⟩

/-- Where no read draws, a pop reads the two bytes as they are stored. -/
theorem popped_of_storage {s : State} (h : s.cfg.ioReadModel = .storage) :
    popped s = wordOf (stored (s.sp + 1) s) (stored s.sp s) := by
  have hdraw (addr : Word) : drawn addr s = false := drawn_of_storage h addr
  rw [popped, afterRead_of_not_drawn (hdraw _), readByte_of_not_drawn (hdraw _), readByte_of_not_drawn (hdraw _)]

/-- A pop gives back the word just pushed in plain storage. -/
theorem popped_pushed {s : State} (v : Word) (hmem : s.mem.wf = true) (hlo : isPlain (s.sp - 2) = true)
    (hhi : isPlain (s.sp - 2 + 1) = true) (hio : s.cfg.ioReadModel = .storage) : popped (pushed v s) = v := by
  obtain ⟨hl, hh⟩ := stored_pushed v hmem hlo hhi
  rw [popped_of_storage (by simpa using hio), pushed_sp, hl, hh, wordOf_hi_lo]

theorem afterRead_setPC (addr v : Word) (s : State) : afterRead addr (setPC v s) = setPC v (afterRead addr s) := by
  have h : drawn addr (setPC v s) = drawn addr s := rfl
  unfold afterRead
  rw [h]
  cases drawn addr s <;> rfl

/-- PC does not enter a pop. -/
@[simp] theorem popped_setPC (v : Word) (s : State) : popped (setPC v s) = popped s := by
  rw [popped, setPC_sp, afterRead_setPC]
  rfl

/-- The registers as a program sees them: F without its low nibble (R22). -/
def registers (s : State) : Byte × Byte × Byte × Byte × Byte × Byte × Byte × Byte :=
  (s.a, readF s, s.b, s.c, s.d, s.e, s.h, s.l)

/-- A pair read in one state and written back in another with the same registers changes none. -/
theorem registers_writeStk_readStk (r : R16Stk) {s t : State} (h : registers t = registers s) :
    registers (writeStk r (readStk r s) t) = registers s := by
  cases r <;> simp_all [registers, writeStk, readStk, regBC, regDE, regHL, regAF, readF, BitVec.and_assoc]

/-- A push and then a pop leave SP where it was. -/
theorem afterPop_pushed_sp (v : Word) (s : State) : (afterPop (pushed v s)).sp = s.sp := by
  rw [afterPop_sp, pushed_sp, BitVec.sub_add_cancel]

/-- A POP of the pair just pushed. -/
theorem pop_pushed (r : R16Stk) {s t u : State} (hpop : popped (pushed (readStk r s) s) = readStk r s)
    (ht : exec (pushRow r) s = .next t) (hu : exec (popRow r) t = .next u) : registers u = registers s ∧ u.sp = s.sp := by
  rw [exec_pushRow, charge_eq] at ht
  obtain ⟨-, rfl⟩ := (pushPair_recount_next _).1 ht
  rw [exec_popRow, charge_eq] at hu
  obtain ⟨-, rfl⟩ := (popPair_recount_next _).1 hu
  rw [popped_recount, afterPop_recount, hpop, writeStk_recount]
  refine ⟨registers_writeStk_readStk r (t := afterPop (pushed (readStk r s) s)) ?_, ?_⟩
  · simp [registers, readF]
  · exact (writeStk_sp _ r _).trans (afterPop_pushed_sp _ s)

/-- A RET right after a call, whatever the call's cost. -/
theorem ret_called {s t u : State} {c : Nat} {nn : Word} (hpop : popped (pushed s.pc s) = s.pc)
    (ht : call nn (recount c s) = .next t) (hu : exec .ret t = .next u) : u.pc = s.pc ∧ u.sp = s.sp := by
  obtain ⟨-, rfl⟩ := (call_recount_next c).1 ht
  obtain ⟨-, rfl⟩ := (ret_recount_next _).1 hu
  rw [popped_recount, popped_setPC, hpop]
  exact ⟨rfl, afterPop_pushed_sp s.pc s⟩

/-- CALL, a taken CALL cc and RST are calls once the cost is charged (R305, R306, R310). -/
theorem exec_calls {i : Instr} {nn : Word} {cc : Cond} {x : Idx8} {s t : State}
    (hi : i = .call_u16 nn ∨ (i = callRow cc nn ∧ cond cc s = true) ∨ i = rstRow x) (ht : exec i s = .next t) :
    ∃ c target, call target (recount c s) = .next t := by
  obtain rfl | ⟨rfl, hcc⟩ | rfl := hi
  · exact ⟨_, _, ht⟩
  · rw [exec_callRow, branchIf, if_pos hcc] at ht
    exact ⟨_, _, ht⟩
  · rw [exec_rstRow] at ht
    exact ⟨_, _, ht⟩

/-- Settles O23: what was pushed in plain storage is popped, whichever pair or return address it is. -/
theorem stackRoundTrips : Obligations.StackRoundTrips := by
  unfold Obligations.StackRoundTrips
  intro r s t u i nn cc x hinv hlo hhi hio
  have hpop (v : Word) : popped (pushed v s) = v := by
    refine popped_pushed v hinv.memCanonical hlo ?_ hio
    rwa [show s.sp - 2 + 1 = s.sp - 1 by bv_omega]
  refine ⟨fun ht hu => ?_, fun hi ht hu => ?_⟩
  · obtain ⟨hregs, hsp⟩ := pop_pushed r (hpop _) ht hu
    simp only [registers, Prod.mk.injEq] at hregs
    exact ⟨hsp, hregs⟩
  · obtain ⟨c, target, hcall⟩ := exec_calls hi ht
    exact ret_called (hpop _) hcall hu

end Sys2Proof.Machine
end

section
/-! 8-bit arithmetic and logic (R200 to R224). The rows of the ALU operations are one family, `AluForm`: what such a row does is given
once, and each statement adds what its operations compute. -/

namespace Sys2Proof.Machine

/-! ### The rows of the ALU operations (R201 to R216) -/

/-- `i` is a row of `op` whose operand reads as `v` in `s`; reading it leaves `s'`, and the row's default cost is `dflt`. -/
inductive AluForm (s : State) (op : AluOp) : Instr → Byte → State → Nat → Prop
  | operand {r : R8} (hopen : opndOpen r s) : AluForm s op (aluRow op r) (opnd r s) (afterOpnd r s) (byOperand r 1 2)
  | immediate (n : Byte) : AluForm s op (aluImmRow op n) n s 2

section
variable {s s' : State} {i : Instr} {v : Byte} {dflt : Nat} {op : AluOp}

/-- Reading the operand leaves A and F. -/
theorem AluForm.keepsAF (hform : AluForm s op i v s' dflt) : s'.a = s.a ∧ s'.f = s.f := by
  cases hform with
  | operand _ => exact ⟨afterOpnd_a s _, afterOpnd_f s _⟩
  | immediate _ => exact ⟨rfl, rfl⟩

/-- A row of an ALU operation applies the operation and charges its cost. -/
theorem AluForm.exec_eq (hform : AluForm s op i v s' dflt) :
    exec i s = .next (recount (costOf i dflt s) (aluApply op v s')) := by
  cases hform with
  | operand hopen =>
    rw [exec_aluRow, charge_eq]
    exact aluR8_next.2 ⟨hopen, by simp [costOf]⟩
  | immediate => exact exec_aluImmRow op v s

/-- Every operation but CP writes its result to A (R215). -/
theorem aluApply_of_ne_cp (hop : op ≠ .cp) (v : Byte) (s : State) :
    aluApply op v s =
      let o := aluCompute op s.a v (flagC s)
      { s with a := o.res, f := flagByte o.z o.n o.h o.c } := by
  cases op with
  | cp => exact absurd rfl hop
  | add | adc | sub | sbc | and | xor | or => rfl

/-- A row of an operation other than CP writes the operation's result to A and its four flags to F. -/
theorem AluForm.exec_writes (hform : AluForm s op i v s' dflt) (hop : op ≠ .cp) {o : AluOut}
    (ho : aluCompute op s.a v (flagC s) = o) :
    exec i s = .next { s' with a := o.res, f := flagByte o.z o.n o.h o.c, cycles := costOf i dflt s } := by
  obtain ⟨ha, hf⟩ := hform.keepsAF
  rw [hform.exec_eq, aluApply_of_ne_cp hop, flagC, ha, hf, ← flagC, ho]
  rfl

end

/-! ### What the operations compute (R200) -/

theorem lowNibble_toNat (v : Byte) : (v &&& 0x0F).toNat = v.toNat % 16 :=
  (BitVec.toNat_and v 0x0F).trans (Nat.and_two_pow_sub_one_eq_mod v.toNat 4)

theorem ofNat_beq_zero (n : Nat) : (BitVec.ofNat 8 n == 0) = decide (n % 256 = 0) := by
  rw [beq_eq_decide]
  exact decide_eq_decide.2 BitVec.toNat_inj.symm

/-- Addition with its carries, nibbles as the statements write them. -/
theorem add8_eq (a v : Byte) (cin : Bool) : add8 a v cin =
    { res := BitVec.ofNat 8 (a.toNat + v.toNat + bitNat cin)
      z := decide ((a.toNat + v.toNat + bitNat cin) % 256 = 0)
      n := false
      h := decide ((a &&& 0x0F).toNat + (v &&& 0x0F).toNat + bitNat cin > 0x0F)
      c := decide (a.toNat + v.toNat + bitNat cin > 0xFF) } := by
  rw [add8, ofNat_beq_zero, lowNibble_toNat, lowNibble_toNat]

/-- A difference on unbounded integers, taken modulo 256. -/
theorem ofInt_sub_sub (a : Byte) (m n : Nat) :
    BitVec.ofInt 8 ((a.toNat : Int) - m - n) = a - BitVec.ofNat 8 m - BitVec.ofNat 8 n := by
  simp [sub_eq_add_neg, BitVec.ofInt_add, BitVec.ofInt_neg]

/-- Subtraction with its borrows, on bytes. -/
theorem sub8_eq (a v : Byte) (cin : Bool) : sub8 a v cin =
    { res := a - v - BitVec.ofNat 8 (bitNat cin)
      z := decide (a - v - BitVec.ofNat 8 (bitNat cin) = 0)
      n := true
      h := decide ((a &&& 0x0F).toNat < (v &&& 0x0F).toNat + bitNat cin)
      c := decide (a.toNat < v.toNat + bitNat cin) } := by
  rw [sub8, ofInt_sub_sub, BitVec.ofNat_toNat, BitVec.setWidth_eq, beq_eq_decide, lowNibble_toNat, lowNibble_toNat]

theorem logic8_eq (res : Byte) (h : Bool) :
    logic8 res h = { res := res, z := decide (res = 0), n := false, h := h, c := false } := by
  rw [logic8, beq_eq_decide]

/-! ### ADD, ADC, SUB, SBC, AND, XOR, OR, CP -/

/-- Settles O24: ADD and ADC are `add8` with carry-in 0 or C. -/
theorem addAndAdcCarryOut : Obligations.AddAndAdcCarryOut := by
  unfold Obligations.AddAndAdcCarryOut
  rintro s i v s' dflt cin (⟨r, hopen, rfl, rfl, rfl, ⟨rfl, rfl⟩ | ⟨rfl, rfl⟩⟩ | ⟨rfl, rfl, ⟨rfl, rfl⟩ | ⟨rfl, rfl⟩⟩)
  · exact (AluForm.operand (op := .add) hopen).exec_writes nofun (add8_eq _ _ false)
  · exact (AluForm.operand (op := .adc) hopen).exec_writes nofun (add8_eq _ _ (flagC s))
  · exact (AluForm.immediate (op := .add) v).exec_writes nofun (add8_eq _ _ false)
  · exact (AluForm.immediate (op := .adc) v).exec_writes nofun (add8_eq _ _ (flagC _))

/-- Settles O25: SUB and SBC are `sub8` with borrow-in 0 or C. -/
theorem subAndSbcBorrowOut : Obligations.SubAndSbcBorrowOut := by
  unfold Obligations.SubAndSbcBorrowOut
  rintro s i v s' dflt cin (⟨r, hopen, rfl, rfl, rfl, ⟨rfl, rfl⟩ | ⟨rfl, rfl⟩⟩ | ⟨rfl, rfl, ⟨rfl, rfl⟩ | ⟨rfl, rfl⟩⟩)
  · exact (AluForm.operand (op := .sub) hopen).exec_writes nofun (sub8_eq _ _ false)
  · exact (AluForm.operand (op := .sbc) hopen).exec_writes nofun (sub8_eq _ _ (flagC s))
  · exact (AluForm.immediate (op := .sub) v).exec_writes nofun (sub8_eq _ _ false)
  · exact (AluForm.immediate (op := .sbc) v).exec_writes nofun (sub8_eq _ _ (flagC _))

/-- Settles O26: AND, XOR and OR are `logic8` of the bitwise result. -/
theorem logicSetsFixedFlags : Obligations.LogicSetsFixedFlags := by
  unfold Obligations.LogicSetsFixedFlags
  rintro s i v res h s' dflt (⟨r, hopen, rfl, rfl, rfl, ⟨rfl, rfl, rfl⟩ | ⟨rfl, rfl, rfl⟩ | ⟨rfl, rfl, rfl⟩⟩ |
    ⟨rfl, rfl, ⟨rfl, rfl, rfl⟩ | ⟨rfl, rfl, rfl⟩ | ⟨rfl, rfl, rfl⟩⟩)
  · exact (AluForm.operand (op := .and) hopen).exec_writes nofun (logic8_eq _ true)
  · exact (AluForm.operand (op := .xor) hopen).exec_writes nofun (logic8_eq _ false)
  · exact (AluForm.operand (op := .or) hopen).exec_writes nofun (logic8_eq _ false)
  · exact (AluForm.immediate (op := .and) v).exec_writes nofun (logic8_eq _ true)
  · exact (AluForm.immediate (op := .xor) v).exec_writes nofun (logic8_eq _ false)
  · exact (AluForm.immediate (op := .or) v).exec_writes nofun (logic8_eq _ false)

/-- CP writes the flags of a subtraction without a borrow-in and leaves A (R215). -/
theorem AluForm.exec_cp {s s' : State} {i : Instr} {v : Byte} {dflt : Nat} (hform : AluForm s .cp i v s' dflt) :
    exec i s = .next { s' with
      f := flagByte (decide (s.a = v)) true (decide ((s.a &&& 0x0F).toNat < (v &&& 0x0F).toNat)) (decide (s.a.toNat < v.toNat))
      cycles := costOf i dflt s } := by
  obtain ⟨ha, -⟩ := hform.keepsAF
  have hz : s'.a - v - BitVec.ofNat 8 (bitNat false) = 0 ↔ s'.a = v := by simp [bitNat, BitVec.sub_eq_iff_eq_add]
  rw [hform.exec_eq, aluApply, aluCompute, sub8_eq, decide_eq_decide.2 hz, ← ha]
  rfl

/-- Settles O27: CP is `sub8` without a borrow-in. -/
theorem compareKeepsA : Obligations.CompareKeepsA := by
  unfold Obligations.CompareKeepsA
  rintro s i v s' dflt (⟨r, hopen, rfl, rfl, rfl, rfl⟩ | ⟨rfl, rfl, rfl⟩)
  · exact (AluForm.operand (op := .cp) hopen).exec_cp
  · exact (AluForm.immediate (op := .cp) v).exec_cp

/-! ### INC and DEC (R217 to R220) -/

theorem lowNibble_beq (v m : Byte) : (v &&& 0x0F == m) = decide (v.toNat % 16 = m.toNat) := by
  rw [beq_eq_decide, ← lowNibble_toNat]
  exact decide_eq_decide.2 BitVec.toNat_inj.symm

theorem inc8_eq (v : Byte) (c : Bool) :
    inc8 v c = { res := v + 1, z := decide (v = 0xFF), n := false, h := decide (v.toNat % 16 = 15), c := c } := by
  have hz : v + 1 = 0 ↔ v = 0xFF := by bv_omega
  rw [inc8, lowNibble_beq, beq_eq_decide, decide_eq_decide.2 hz]
  rfl

theorem dec8_eq (v : Byte) (c : Bool) :
    dec8 v c = { res := v - 1, z := decide (v = 1), n := true, h := decide (v.toNat % 16 = 0), c := c } := by
  have hz : v - 1 = 0 ↔ v = 1 := BitVec.sub_eq_iff_eq_add
  rw [dec8, lowNibble_beq, beq_eq_decide, decide_eq_decide.2 hz]
  rfl

/-- Settles O28: INC and DEC read the operand, and write `inc8` and `dec8` of it back with C as it was. -/
theorem incAndDecKeepCarry : Obligations.IncAndDecKeepCarry := by
  unfold Obligations.IncAndDecKeepCarry
  intro r s hopen
  constructor
  · rw [exec_incRow, charge_eq]
    exact incR8_next.2 ⟨hopen, by simp only [opnd_recount, flagC_recount, afterOpnd_recount, put_recount, inc8_eq]; rfl⟩
  · rw [exec_decRow, charge_eq]
    exact decR8_next.2 ⟨hopen, by simp only [opnd_recount, flagC_recount, afterOpnd_recount, put_recount, dec8_eq]; rfl⟩

/-! ### DAA (R221) -/

/-- After an addition both corrections are sums. -/
theorem daaCompute_add (a : Byte) (h c : Bool) : daaCompute a false h c =
    let res : Byte := a + ((if c = true ∨ a.toNat > 0x99 then 0x60 else 0) + (if h = true ∨ a.toNat % 16 > 9 then 0x06 else 0))
    { res := res, z := decide (res = 0), n := false, h := false, c := decide (c = true ∨ a.toNat > 0x99) } := by
  have hsum (p q : Prop) [Decidable p] [Decidable q] :
      BitVec.ofNat 8 (a.toNat + (if p then 0x60 else 0) + (if q then 0x06 else 0)) =
        a + ((if p then 0x60 else 0) + (if q then 0x06 else 0)) := by
    split_ifs <;> bv_omega
  simp [daaCompute, hsum, beq_eq_decide]

/-- After a subtraction both corrections are differences. -/
theorem daaCompute_sub (a : Byte) (h c : Bool) : daaCompute a true h c =
    let res : Byte := a - ((if c then 0x60 else 0) + (if h then 0x06 else 0))
    { res := res, z := decide (res = 0), n := true, h := false, c := c } := by
  have hdiff : BitVec.ofInt 8 ((a.toNat : Int) - (if c then 0x60 else 0) - (if h then 0x06 else 0)) =
      a - ((if c then 0x60 else 0) + (if h then 0x06 else 0)) := by
    have hbytes := ofInt_sub_sub a (if c then 0x60 else 0) (if h then 0x06 else 0)
    rw [sub_add_eq_sub_sub]
    cases c <;> cases h <;> exact hbytes
  simp [daaCompute, hdiff, beq_eq_decide]

/-- What DAA computes on every A, N, H and C. -/
theorem daaCompute_eq (a : Byte) (n h c : Bool) : daaCompute a n h c =
    let up : Byte := (if c = true ∨ a.toNat > 0x99 then 0x60 else 0) + (if h = true ∨ a.toNat % 16 > 9 then 0x06 else 0)
    let down : Byte := (if c then 0x60 else 0) + (if h then 0x06 else 0)
    let res := if n then a - down else a + up
    { res := res, z := decide (res = 0), n := n, h := false, c := if n then c else decide (c = true ∨ a.toNat > 0x99) } := by
  cases n with
  | false => exact daaCompute_add a h c
  | true => exact daaCompute_sub a h c

theorem exec_daa (s : State) : exec .daa s =
    let o := daaCompute s.a (flagN s) (flagH s) (flagC s)
    .next { s with a := o.res, f := flagByte o.z (flagN s) o.h o.c, cycles := costOf .daa 1 s } := rfl

/-- Settles O29: DAA writes what `daaCompute` gives. -/
theorem daaAdjusts : Obligations.DaaAdjusts := by
  unfold Obligations.DaaAdjusts
  intro s
  rw [exec_daa, daaCompute_eq]
  rfl

/-! ### Decimal addition (R201 to R204, R221) -/

/-- A two-digit decimal number as a byte. -/
def bcd (n : Nat) : Byte := BitVec.ofNat 8 (n / 10 * 16 + n % 10)

theorem bcd_toNat {n : Nat} (hn : n < 100) : (bcd n).toNat = n / 10 * 16 + n % 10 := by
  rw [bcd, BitVec.toNat_ofNat]
  omega

section
variable {tens ones : Nat}

/-- A nibble carry or a nibble above 9 shows that the ones and the carry-in make 10 or more. -/
theorem onesCarry_iff (hones : ones ≤ 19) : (ones > 15 ∨ (16 * tens + ones) % 256 % 16 > 9) ↔ 10 ≤ ones := by
  omega

/-- A byte carry or a byte above 0x99 shows that the tens with the carry of the ones make 10 or more. -/
theorem tensCarry_iff (hones : ones ≤ 19) :
    (16 * tens + ones > 255 ∨ (16 * tens + ones) % 256 > 0x99) ↔ 10 ≤ tens + ones / 10 := by
  have hbyte : (16 * tens + ones > 255 ∨ (16 * tens + ones) % 256 > 0x99) ↔ 16 * tens + ones > 0x99 := by omega
  have hdigits : 16 * tens + ones > 0x99 ↔ 10 ≤ tens + ones / 10 := by
    obtain h | h : tens ≤ 8 ∨ 9 ≤ tens := by omega
    all_goals omega
  exact hbyte.trans hdigits

/-- DAA's corrections, 6 for each digit that carries, leave the decimal digits of the sum. -/
theorem correctedSum_eq_digits (htens : tens ≤ 18) (hones : ones ≤ 19) :
    (16 * tens + ones + ((if 10 ≤ tens + ones / 10 then 0x60 else 0) + (if 10 ≤ ones then 0x06 else 0))) % 256 =
      (tens + ones / 10) % 10 * 16 + ones % 10 := by
  split_ifs <;> omega

end

/-- DAA corrects a sum of two-digit decimal numbers. -/
theorem daaCompute_add8_bcd {x y : Nat} (hx : x < 100) (hy : y < 100) (cin : Bool) :
    let o := add8 (bcd x) (bcd y) cin
    let d := daaCompute o.res false o.h o.c
    d.res = bcd ((x + y + bitNat cin) % 100) ∧ d.c = decide (x + y + bitNat cin ≥ 100) := by
  have hcin : bitNat cin ≤ 1 := by cases cin <;> decide
  have hnibble (n : Nat) : (n / 10 * 16 + n % 10) % 16 = n % 10 := by omega
  obtain ⟨tens, htens⟩ : ∃ tens, tens = x / 10 + y / 10 := ⟨_, rfl⟩
  obtain ⟨ones, hones⟩ : ∃ ones, ones = x % 10 + y % 10 + bitNat cin := ⟨_, rfl⟩
  have hbytes : x / 10 * 16 + x % 10 + (y / 10 * 16 + y % 10) + bitNat cin = 16 * tens + ones := by omega
  have hsum : x + y + bitNat cin = 10 * tens + ones := by omega
  have htens18 : tens ≤ 18 := by omega
  have hones19 : ones ≤ 19 := by omega
  simp only [add8, daaCompute, bcd_toNat hx, bcd_toNat hy, hnibble, hbytes, hsum, ← hones, BitVec.toNat_ofNat,
    decide_eq_true_eq, Bool.false_eq_true, if_false, onesCarry_iff hones19, tensCarry_iff hones19, ← Bool.decide_or]
  constructor
  · apply BitVec.eq_of_toNat_eq
    rw [bcd_toNat (Nat.mod_lt _ (by decide)), BitVec.toNat_ofNat, Nat.add_assoc, Nat.mod_add_mod]
    refine (correctedSum_eq_digits htens18 hones19).trans ?_
    omega
  · rw [decide_eq_decide]
    omega

/-- A row that answers a next state could read its operand, so it is an `AluForm`. -/
theorem AluForm.of_exec {s t : State} {op : AluOp} {i : Instr} {v : Byte}
    (hi : i = aluImmRow op v ∨ ∃ r, v = opnd r s ∧ i = aluRow op r) (ht : exec i s = .next t) :
    ∃ s' dflt, AluForm s op i v s' dflt := by
  obtain rfl | ⟨r, rfl, rfl⟩ := hi
  · exact ⟨_, _, .immediate v⟩
  · rw [exec_aluRow, aluR8_next] at ht
    exact ⟨_, _, .operand ht.1⟩

/-- DAA after a row that is an addition of `v` to A with carry-in `cin`. -/
theorem daa_after_add {s t u : State} {op : AluOp} {i : Instr} {v : Byte} {cin : Bool}
    (hi : i = aluImmRow op v ∨ ∃ r, v = opnd r s ∧ i = aluRow op r) (hop : op ≠ .cp)
    (hadd : aluCompute op s.a v (flagC s) = add8 s.a v cin) (ht : exec i s = .next t) (hu : exec .daa t = .next u) :
    let o := add8 s.a v cin
    let d := daaCompute o.res false o.h o.c
    u.a = d.res ∧ flagC u = d.c := by
  obtain ⟨s', dflt, hform⟩ := AluForm.of_exec hi ht
  rw [hform.exec_writes hop hadd, next_inj] at ht
  rw [exec_daa, next_inj] at hu
  subst ht hu
  simp only [flagN, flagH, flagC, flagByte_n, flagByte_h, flagByte_c]
  exact ⟨rfl, rfl⟩

/-- Settles O30: ADD and ADC add two bytes of decimal digits, and DAA corrects that sum. -/
theorem daaCorrectsDecimalAddition : Obligations.DaaCorrectsDecimalAddition := by
  unfold Obligations.DaaCorrectsDecimalAddition
  intro s t u x y i v cin hx hy hxa hyv hi ht hu
  obtain ⟨op, k, hrow, hop, hadd, rfl⟩ : ∃ op k, (i = aluImmRow op v ∨ ∃ r, v = opnd r s ∧ i = aluRow op r) ∧ op ≠ .cp ∧
      aluCompute op s.a v (flagC s) = add8 s.a v k ∧ bitNat k = cin := by
    obtain ⟨hrow, rfl⟩ | ⟨hrow, rfl⟩ := hi
    · exact ⟨.add, false, hrow, nofun, rfl, rfl⟩
    · exact ⟨.adc, flagC s, hrow, nofun, rfl, rfl⟩
  obtain ⟨hres, hcarry⟩ := daa_after_add hrow hop hadd ht hu
  obtain ⟨hsum, hhundred⟩ := daaCompute_add8_bcd hx hy k
  rw [← bcd] at hxa hyv
  rw [hxa, hyv] at hres hcarry
  refine ⟨(hres.trans hsum).trans ?_, hcarry.trans hhundred⟩
  rw [bcd, Nat.mod_mod_of_dvd _ (by decide)]

/-! ### CPL, SCF, CCF (R222 to R224) -/

/-- Settles O31: SCF and CCF by their definitions, and CPL too once the complement is an exclusive or with 0xFF. -/
theorem complementAndCarryFlagForms : Obligations.ComplementAndCarryFlagForms := by
  unfold Obligations.ComplementAndCarryFlagForms
  intro s
  have hnot : ~~~s.a = s.a ^^^ 0xFF := (BitVec.xor_allOnes).symm
  exact ⟨hnot ▸ rfl, rfl, rfl⟩

end Sys2Proof.Machine
end

section
/-! 16-bit arithmetic (R240 to R244): the sums and flags as the statements write them, then the rows. -/

namespace Sys2Proof.Machine

/-- A mask of the `k` lowest bits takes the remainder modulo `2 ^ k`. -/
theorem lowBits_toNat (v m : Word) (k : Nat) (hm : m.toNat = 2 ^ k - 1) : (v &&& m).toNat = v.toNat % 2 ^ k := by
  rw [BitVec.toNat_and, hm, Nat.and_two_pow_sub_one_eq_mod]

/-- A word plus a sign-extended displacement is the sum on the integers, taken modulo 2^16. -/
theorem add_sext16 (w : Word) (e : Byte) : w + sext16 e = BitVec.ofInt 16 (w.toNat + e.toInt) := by
  rw [BitVec.ofInt_add, BitVec.ofInt_natCast, BitVec.ofNat_toNat, BitVec.setWidth_eq]
  rfl

/-! ### ADD SP,i8 and LD HL,SP+i8 (R243, R244) -/

theorem spPlus_eq (e : Byte) (s : State) : spPlus e s = BitVec.ofInt 16 (s.sp.toNat + e.toInt) := add_sext16 s.sp e

theorem spPlusFlags_eq (e : Byte) (s : State) : spPlusFlags e s =
    flagByte false false (decide ((s.sp &&& 0x0F).toNat + (e &&& 0x0F).toNat > 0x0F))
      (decide ((s.sp &&& 0xFF).toNat + e.toNat > 0xFF)) := by
  rw [spPlusFlags, lowBits_toNat s.sp 0x0F 4 rfl, lowBits_toNat s.sp 0xFF 8 rfl, lowNibble_toNat]
  rfl

theorem exec_add_SP_i8 (e : Byte) (s : State) : exec (.add_SP_i8 e) s =
    .next { s with sp := spPlus e s, f := spPlusFlags e s, cycles := costOf (.add_SP_i8 e) 4 s } := rfl

theorem exec_ld_HL_SPi8 (e : Byte) (s : State) : exec (.ld_HL_SPi8 e) s =
    .next { setHL (spPlus e s) s with f := spPlusFlags e s, cycles := costOf (.ld_HL_SPi8 e) 3 s } := rfl

/-- Settles O34: both rows write `spPlus` and `spPlusFlags`, to SP or to HL. -/
theorem spDisplacementFlagsFromLowByte : Obligations.SpDisplacementFlagsFromLowByte := by
  unfold Obligations.SpDisplacementFlagsFromLowByte
  intro e s
  rw [exec_add_SP_i8, exec_ld_HL_SPi8, spPlus_eq, spPlusFlags_eq]
  exact ⟨rfl, rfl⟩

/-! ### ADD HL,rr (R240) -/

theorem add16H_eq (a v : Word) : add16H a v = decide ((a &&& 0x0FFF).toNat + (v &&& 0x0FFF).toNat > 0x0FFF) := by
  rw [add16H, lowBits_toNat a 0x0FFF 12 rfl, lowBits_toNat v 0x0FFF 12 rfl]
  rfl

/-- ADD HL,rr adds the pair's word `v` to HL, keeps Z and carries out of bits 11 and 15. -/
theorem exec_addHLRow_of_pair {r : R16} {s : State} {v : Word} (hv : readR16 r s = v) : exec (addHLRow r) s =
    .next (recount (costOf (addHLRow r) 2 s)
      (setHL (regHL s + v) (setF (flagZ s) false (add16H (regHL s) v) (add16C (regHL s) v) s))) := by
  rw [exec_addHLRow, charge_eq, addHL, readR16_recount, hv]
  rfl

/-- Settles O32: `exec_addHLRow_of_pair` at the four pairs. -/
theorem addHlCarriesFromBits11And15 : Obligations.AddHlCarriesFromBits11And15 := by
  unfold Obligations.AddHlCarriesFromBits11And15
  intro s r v hpair
  have hv : readR16 r s = v := by
    simp only [List.mem_cons, List.not_mem_nil, or_false, Prod.mk.injEq] at hpair
    obtain ⟨rfl, rfl⟩ | ⟨rfl, rfl⟩ | ⟨rfl, rfl⟩ | ⟨rfl, rfl⟩ := hpair
    all_goals rfl
  rw [exec_addHLRow_of_pair hv, add16H_eq]
  rfl

/-! ### INC rr and DEC rr (R241, R242) -/

/-- The rows of INC rr add 1 to the pair and those of DEC rr add -1; nothing else but the count changes. -/
theorem exec_stepPairRow {delta : Word} {row : R16 → Instr}
    (hrow : (delta = 1 ∧ row = inc16Row) ∨ (delta = -1 ∧ row = dec16Row)) (r : R16) (s : State) :
    exec (row r) s = .next (recount (costOf (row r) 2 s) (writeR16 r (readR16 r s + delta) s)) := by
  obtain ⟨rfl, rfl⟩ | ⟨rfl, rfl⟩ := hrow
  · rw [exec_inc16Row, charge_eq, incR16, readR16_recount, writeR16_recount]
    rfl
  · rw [exec_dec16Row, charge_eq, decR16, readR16_recount, writeR16_recount, BitVec.sub_eq_add_neg]
    rfl

/-- Settles O33: `exec_stepPairRow` at the four pairs. -/
theorem incAndDecPairWriteNoFlag : Obligations.IncAndDecPairWriteNoFlag := by
  unfold Obligations.IncAndDecPairWriteNoFlag
  intro s delta row hrow
  have hstep (r : R16) := exec_stepPairRow hrow r s
  exact ⟨hstep .BC, hstep .DE, hstep .HL, hstep .SP⟩

end Sys2Proof.Machine
end

section
/-! Rotates, shifts and single bits (R260 to R274): `shiftCompute` as arithmetic on the byte's value, which both the accumulator
rotates and the CB rows use; then BIT, RES and SET bit by bit. -/

namespace Sys2Proof.Machine

/-! ### The rotates and shifts as arithmetic -/

/-- The result and the bit shifted out, for a byte of value `v` and a carry-in of value `c`. -/
def shiftArith (op : ShiftOp) (v c : Nat) : Nat × Bool :=
  match op with
  | .rlc => (2 * v % 256 + v / 128, decide (v ≥ 128))
  | .rrc => (v / 2 + 128 * (v % 2), decide (v % 2 = 1))
  | .rl => (2 * v % 256 + c, decide (v ≥ 128))
  | .rr => (v / 2 + 128 * c, decide (v % 2 = 1))
  | .sla => (2 * v % 256, decide (v ≥ 128))
  | .sra => (v / 2 + v / 128 * 128, decide (v % 2 = 1))
  | .swap => (v % 16 * 16 + v / 16, false)
  | .srl => (v / 2, decide (v % 2 = 1))

theorem shiftArith_lt (op : ShiftOp) {v c : Nat} (hv : v < 256) (hc : c ≤ 1) : (shiftArith op v c).1 < 256 := by
  cases op <;> simp only [shiftArith] <;> omega

theorem bitNat_le (b : Bool) : bitNat b ≤ 1 := by cases b <;> decide

theorem bit7_eq (v : Byte) : v.getLsbD 7 = decide (v.toNat ≥ 128) := BitVec.msb_eq_decide v

theorem bit0_eq (v : Byte) : v.getLsbD 0 = decide (v.toNat % 2 = 1) := Nat.testBit_zero v.toNat

theorem bitNat_bit7 (v : Byte) : bitNat (v.getLsbD 7) = v.toNat / 128 := by
  simp only [bit7_eq, bitNat, decide_eq_true_eq]
  split_ifs <;> omega

theorem bitNat_bit0 (v : Byte) : bitNat (v.getLsbD 0) = v.toNat % 2 := by
  simp only [bit0_eq, bitNat, decide_eq_true_eq]
  split_ifs <;> omega

/-- Joining two bytes whose bits do not meet adds their values. -/
theorem shiftLeft_or_eq {x y : Byte} {k : Nat} (hy : y.toNat < 2 ^ k) :
    x <<< k ||| y = BitVec.ofNat 8 (x.toNat * 2 ^ k + y.toNat) := by
  apply BitVec.eq_of_toNat_eq
  rw [BitVec.toNat_or, BitVec.toNat_shiftLeft, BitVec.toNat_ofNat, ← Nat.shiftLeft_eq, Nat.shiftLeft_add_eq_or_of_lt hy,
    Nat.or_mod_two_pow, Nat.mod_eq_of_lt y.isLt]

/-- A left shift that brings `b` in at bit 0. -/
theorem shiftLeft_bitIn (v : Byte) (b : Bool) :
    v <<< 1 ||| (if b then 0x01 else 0) = BitVec.ofNat 8 (2 * v.toNat % 256 + bitNat b) := by
  have hb : (if b then 0x01 else 0 : Byte).toNat = bitNat b := by cases b <;> rfl
  rw [shiftLeft_or_eq (by rw [hb]; exact Nat.lt_succ_of_le (bitNat_le b)), hb]
  bv_omega

/-- A right shift that brings `b` in at bit 7. -/
theorem shiftRight_bitIn (v : Byte) (b : Bool) :
    v >>> 1 ||| (if b then 0x80 else 0) = BitVec.ofNat 8 (v.toNat / 2 + 128 * bitNat b) := by
  have hb : (if b then 0x80 else 0 : Byte) = BitVec.ofNat 8 (bitNat b) <<< 7 := by cases b <;> rfl
  have hv : (v >>> 1).toNat = v.toNat / 2 := BitVec.toNat_ushiftRight v 1
  rw [hb, BitVec.or_comm, shiftLeft_or_eq (by omega), hv]
  cases b <;> simp [bitNat, Nat.add_comm]

theorem swap_eq (v : Byte) : v <<< 4 ||| v >>> 4 = BitVec.ofNat 8 (v.toNat % 16 * 16 + v.toNat / 16) := by
  have hv : (v >>> 4).toNat = v.toNat / 16 := by rw [BitVec.toNat_ushiftRight, Nat.shiftRight_eq_div_pow]
  rw [shiftLeft_or_eq (by omega), hv]
  apply BitVec.eq_of_toNat_eq
  simp only [BitVec.toNat_ofNat]
  omega

theorem shiftLeft_one_eq (v : Byte) : v <<< 1 = BitVec.ofNat 8 (2 * v.toNat % 256) := by
  simpa [bitNat] using shiftLeft_bitIn v false

theorem shiftRight_one_eq (v : Byte) : v >>> 1 = BitVec.ofNat 8 (v.toNat / 2) := by
  simpa [bitNat] using shiftRight_bitIn v false

/-- Every rotate, shift and SWAP computes its arithmetic. -/
theorem shiftCompute_eq (op : ShiftOp) (v : Byte) (cin : Bool) : shiftCompute op v cin =
    let r := shiftArith op v.toNat (bitNat cin)
    (BitVec.ofNat 8 r.1, r.2) := by
  cases op with
  | rlc => rw [shiftCompute, shiftLeft_bitIn, bitNat_bit7, bit7_eq]; rfl
  | rrc => rw [shiftCompute, shiftRight_bitIn, bitNat_bit0, bit0_eq]; rfl
  | rl => rw [shiftCompute, shiftLeft_bitIn, bit7_eq]; rfl
  | rr => rw [shiftCompute, shiftRight_bitIn, bit0_eq]; rfl
  | sla => rw [shiftCompute, shiftLeft_one_eq, bit7_eq]; rfl
  | sra =>
    have hsign : v &&& 0x80 = if v.getLsbD 7 then 0x80 else 0 := BitVec.and_twoPow v 7
    rw [shiftCompute, hsign, shiftRight_bitIn, bitNat_bit7, bit0_eq, Nat.mul_comm]; rfl
  | swap => rw [shiftCompute, swap_eq]; rfl
  | srl => rw [shiftCompute, shiftRight_one_eq, bit0_eq]; rfl

/-! ### RLCA, RRCA, RLA, RRA (R260 to R263) -/

theorem rotateA_eq (op : ShiftOp) (s : State) : rotateA op s =
    let r := shiftArith op s.a.toNat (bitNat (flagC s))
    { s with a := BitVec.ofNat 8 r.1, f := flagByte false false false r.2 } := by
  rw [rotateA, shiftCompute_eq]

/-- A left rotate's result may be reduced modulo 256 before the bit comes in. -/
theorem ofNat_mod_add (m n : Nat) : BitVec.ofNat 8 (m % 256 + n) = BitVec.ofNat 8 (m + n) :=
  BitVec.eq_of_toNat_eq (Nat.mod_add_mod m 256 n)

/-- A row that is an accumulator rotate writes the rotate's arithmetic to A and only C to F. -/
theorem exec_of_rotateA {op : ShiftOp} {i : Instr} {s : State} (hi : exec i s = .next (recount (costOf i 1 s) (rotateA op s))) :
    exec i s =
      let r := shiftArith op s.a.toNat (bitNat (flagC s))
      .next { s with a := BitVec.ofNat 8 r.1, f := flagByte false false false r.2, cycles := costOf i 1 s } := by
  rw [hi, rotateA_eq]
  rfl

/-- Settles O35: the four rows are `rotateA`. -/
theorem accumulatorRotatesForceZ : Obligations.AccumulatorRotatesForceZ := by
  unfold Obligations.AccumulatorRotatesForceZ
  intro s
  refine ⟨?_, exec_of_rotateA (op := .rrc) rfl, ?_, exec_of_rotateA (op := .rr) rfl⟩
  · rw [← ofNat_mod_add]
    exact exec_of_rotateA (op := .rlc) rfl
  · rw [← ofNat_mod_add]
    exact exec_of_rotateA (op := .rl) rfl

/-! ### The CB rotates, shifts and SWAP (R264 to R271) -/

theorem cbShiftOut_eq (op : ShiftOp) (v : Byte) (cin : Bool) : cbShiftOut op v cin =
    let r := shiftArith op v.toNat (bitNat cin)
    { res := BitVec.ofNat 8 r.1, z := decide (r.1 = 0), n := false, h := false, c := r.2 } := by
  rw [cbShiftOut, shiftCompute_eq]
  simp only [ofNat_beq_zero, Nat.mod_eq_of_lt (shiftArith_lt op v.isLt (bitNat_le cin))]

/-- A CB row of a rotate, shift or SWAP writes its operand's arithmetic back. -/
theorem exec_shiftRow_of_open {op : ShiftOp} {r : R8} {s : State} (hopen : opndOpen r s) :
    exec (shiftRow op r) s =
      let o := shiftArith op (opnd r s).toNat (bitNat (flagC s))
      .next { put r (BitVec.ofNat 8 o.1) (afterOpnd r s) with
        f := flagByte (decide (o.1 = 0)) false false o.2
        cycles := costOf (shiftRow op r) (byOperand r 2 4) s } := by
  rw [exec_shiftRow, charge_eq]
  exact cbShift_next.2 ⟨hopen, by simp only [opnd_recount, flagC_recount, afterOpnd_recount, put_recount, cbShiftOut_eq]; rfl⟩

/-- Settles O36: the statement's list is `shiftArith` at each of the eight operations. -/
theorem cbRotatesAndShiftsRecomputeZ : Obligations.CbRotatesAndShiftsRecomputeZ := by
  unfold Obligations.CbRotatesAndShiftsRecomputeZ
  intro r s op res out hopen v c hmem
  have hlist : (op, res, out) ∈
      [ShiftOp.rlc, .rrc, .rl, .rr, .sla, .sra, .swap, .srl].map (fun o => (o, shiftArith o v c)) := hmem
  obtain ⟨_, -, hop⟩ := List.mem_map.1 hlist
  obtain ⟨rfl, hres⟩ := Prod.mk.inj hop
  obtain ⟨rfl, rfl⟩ := Prod.mk.inj hres
  exact exec_shiftRow_of_open hopen

/-! ### BIT, RES, SET (R272 to R274) -/

theorem idx8_lt (b : Idx8) : b.toNat < 8 := by cases b <;> decide

theorem testedBit_eq (v : Byte) (k : Nat) : (!v.getLsbD k) = decide (v.toNat / 2 ^ k % 2 = 0) := by
  rw [BitVec.getLsbD, Nat.testBit_eq_decide_div_mod_eq, ← decide_not, decide_eq_decide]
  omega

/-- Settles O37: BIT reads the operand and writes F only. -/
theorem bitTestsOneBit : Obligations.BitTestsOneBit := by
  unfold Obligations.BitTestsOneBit
  intro b r s hopen
  rw [exec_bitRow, charge_eq, ← testedBit_eq]
  exact cbBit_next.2 ⟨hopen, by simp only [opnd_recount, flagC_recount, afterOpnd_recount]; rfl⟩

/-- The mask of RES clears bit `n` and no other; past the byte there is nothing to clear. -/
theorem getLsbD_clearBit (v : Byte) (n k : Nat) :
    (v &&& ~~~(BitVec.twoPow 8 n)).getLsbD k = if k = n then false else v.getLsbD k := by
  rw [BitVec.getLsbD_and, BitVec.getLsbD_not, BitVec.getLsbD_twoPow]
  by_cases hk : k < 8
  · by_cases hkn : k = n
    · simp [hkn]
    · simp [hk, hkn, Ne.symm hkn]
  · simp [BitVec.getLsbD_of_ge v k (Nat.le_of_not_lt hk)]

/-- The mask of SET sets bit `n`, if it lies in the byte, and no other. -/
theorem getLsbD_setBit (v : Byte) {n : Nat} (hn : n < 8) (k : Nat) :
    (v ||| BitVec.twoPow 8 n).getLsbD k = if k = n then true else v.getLsbD k := by
  rw [BitVec.getLsbD_or, BitVec.getLsbD_twoPow]
  by_cases hkn : k = n
  · simp [hkn, hn]
  · simp [hkn, Ne.symm hkn]

/-- Settles O38: RES and SET write the operand back under their masks. -/
theorem resAndSetChangeOneBit : Obligations.ResAndSetChangeOneBit := by
  unfold Obligations.ResAndSetChangeOneBit
  intro b r s hopen
  rw [exec_resRow, exec_setRow, charge_eq, charge_eq]
  refine ⟨⟨_, cbRes_next.2 ⟨hopen, ?_⟩, getLsbD_clearBit _ _⟩, _, cbSet_next.2 ⟨hopen, ?_⟩, getLsbD_setBit _ (idx8_lt b)⟩
  all_goals
    rw [opnd_recount, afterOpnd_recount, put_recount]
    rfl

end Sys2Proof.Machine
end

section
/-! Control transfer (R300 to R310): the jumps, calls and returns, run with the Step's count already charged, and the two outcomes
of a conditional form. -/

namespace Sys2Proof.Machine

/-! ### The two outcomes of a conditional form (R301, R304, R306, R308) -/

section
variable {cc : Cond} {s : State} (x : Slot) (base taken : Nat)

theorem branchIf_of_holds (h : cond cc s = true) (k : State → Out) :
    branchIf cc x base taken s k = k (recount (takenCost x taken s.cfg) s) := if_pos h

theorem branchIf_of_fails (h : cond cc s = false) (k : State → Out) :
    branchIf cc x base taken s k = .next (recount (baseCost x base s.cfg) s) := by
  rw [branchIf, h]
  rfl

/-- A conditional form whose taken branch only sets PC. -/
theorem branchIf_setPC {holds : Bool} (h : cond cc s = holds) {k : State → Out} {target : Word}
    (hk : ∀ c, k (recount c s) = .next (recount c (setPC target s))) :
    branchIf cc x base taken s k =
      .next (if holds then recount (takenCost x taken s.cfg) (setPC target s) else recount (baseCost x base s.cfg) s) := by
  cases holds with
  | true => exact (branchIf_of_holds x base taken h k).trans (hk _)
  | false => exact branchIf_of_fails x base taken h k

end

/-! ### Jumps (R300 to R304) -/

theorem jump_recount (c : Nat) (nn : Word) (s : State) : jump nn (recount c s) = .next (recount c (setPC nn s)) := rfl

theorem jumpRel_recount (c : Nat) (e : Byte) (s : State) :
    jumpRel e (recount c s) = .next (recount c (setPC (BitVec.ofInt 16 (s.pc.toNat + e.toInt)) s)) := by
  rw [← add_sext16]
  rfl

/-- Settles O39: the rows are `jump` and `jumpRel`, by themselves or as the taken branch of `branchIf`. -/
theorem jumpsSetPc : Obligations.JumpsSetPc := by
  unfold Obligations.JumpsSetPc
  intro s nn e cc holds hmem rel
  have hcond : cond cc s = holds := by
    simp only [List.mem_cons, List.not_mem_nil, or_false, Prod.mk.injEq] at hmem
    obtain ⟨rfl, rfl⟩ | ⟨rfl, rfl⟩ | ⟨rfl, rfl⟩ | ⟨rfl, rfl⟩ := hmem
    all_goals rfl
  rw [exec_jpRow, exec_jrRow]
  exact ⟨jump_recount _ nn s, jump_recount _ (regHL s) s, jumpRel_recount _ e s,
    branchIf_setPC _ 3 4 hcond (jump_recount · nn s), branchIf_setPC _ 2 3 hcond (jumpRel_recount · e s)⟩

/-! ### Calls and restarts (R305, R306, R310) -/

theorem call_recount (c : Nat) (nn : Word) {s : State} (h : pushOpen s) :
    call nn (recount c s) = .next (recount c (setPC nn (pushed s.pc s))) :=
  (call_recount_next c).2 ⟨h, rfl⟩

/-- Settles O40: the rows are `call`, by itself or as the taken branch of `branchIf`. -/
theorem callsPushTheReturnAddress : Obligations.CallsPushTheReturnAddress := by
  unfold Obligations.CallsPushTheReturnAddress
  intro s nn cc t
  rw [exec_callRow, exec_rstRow, Nat.mul_comm 8]
  refine ⟨fun hopen => ⟨call_recount _ nn hopen, fun h => ?_, call_recount _ _ hopen⟩,
    fun h => branchIf_of_fails _ 3 6 h (call nn)⟩
  rw [branchIf_of_holds _ 3 6 h]
  exact call_recount _ nn hopen

/-! ### Returns (R307 to R309) -/

theorem ret_recount (c : Nat) {s : State} (h : popOpen s) :
    ret (recount c s) = .next (recount c (setPC (popped s) (afterPop s))) :=
  (ret_recount_next c).2 ⟨h, rfl⟩

theorem returnFromInterrupt_recount (c : Nat) {s : State} (h : popOpen s) :
    returnFromInterrupt (recount c s) = .next (recount c { afterPop s with pc := popped s, ime := true }) :=
  returnFromInterrupt_next.2 ⟨h, by rw [popped_recount, afterPop_recount]; rfl⟩

/-- Settles O41: the rows are `ret`, by itself or as the taken branch of `branchIf`, and `returnFromInterrupt`, which sets IME
whatever EI_DELAY is. -/
theorem returnsPopPc : Obligations.ReturnsPopPc := by
  unfold Obligations.ReturnsPopPc
  intro s cc
  rw [exec_retRow]
  refine ⟨fun hopen => ⟨ret_recount _ hopen, returnFromInterrupt_recount _ hopen, fun h => ?_⟩,
    fun h => branchIf_of_fails _ 2 5 h ret⟩
  rw [branchIf_of_holds _ 2 5 h]
  exact ret_recount _ hopen

end Sys2Proof.Machine
end

section
/-! The system instructions (45_system.md R330 to R338): NOP and the unused slots, STOP, HALT with the HALT bug, DI and EI, each
given once as its operation with the Step's count already charged. -/

namespace Sys2Proof.Machine

/-! ### NOP, the unused slots and STOP (R330, R331, R338) -/

/-- NOP and the eleven unused slots are the rows of shape `noOp`, at a default cost of 1. -/
theorem rowOf_nop_or_unused : ∀ i ∈ Instr.nop :: unusedSlots, (rowOf i).1 = .noOp ∧ (rowOf i).2.1 = 1 := by decide

/-- Settles O42: the shape `noOp` only charges. -/
theorem nopAndUnusedDoNothing : Obligations.NopAndUnusedDoNothing := by
  unfold Obligations.NopAndUnusedDoNothing
  intro s i hi
  obtain ⟨hshape, hcost⟩ := rowOf_nop_or_unused i hi
  rw [exec_eq_run, hshape, hcost]
  rfl

theorem exec_stop (n : Byte) (s : State) : exec (.stop n) s = stop n (recount (costOf (.stop n) 1 s) s) := rfl

/-- Settles O43: STOP by its three modes. -/
theorem stopFollowsStopMode : Obligations.StopFollowsStopMode := by
  unfold Obligations.StopFollowsStopMode
  intro n s
  rw [exec_stop]
  refine ⟨fun hmode => stop_next.2 (.inl ⟨hmode, rfl⟩), fun hmode => stop_next.2 (.inr ⟨hmode, rfl⟩), fun hmode => ?_⟩
  rw [stop, cfg_recount, hmode]

/-! ### HALT and the HALT bug (R332) -/

section
variable {s : State}

theorem halt_of_request (hime : s.ime = false) (hreq : pending s ≠ 0) :
    (s.cfg.haltBugMode = .rewind → halt s = .next { s with halted := false, pc := s.pc - 1 }) ∧
    (s.cfg.haltBugMode = .repeatNextByte → halt s = .next { s with halted := false, haltBugPending := true }) := by
  have hbug : (!s.ime && pending s != 0) = true := by
    rw [hime, bne_iff_ne.2 hreq]
    rfl
  rw [halt, if_pos hbug]
  exact ⟨fun hmode => by rw [hmode], fun hmode => by rw [hmode]⟩

theorem halt_of_no_bug (h : ¬ (s.ime = false ∧ pending s ≠ 0)) : halt s = .next { s with halted := true } := by
  refine if_neg ?_
  simpa using h

end

theorem exec_halt (s : State) : exec .halt s = halt (recount (costOf .halt 1 s) s) := rfl

/-- Settles O44: the three cases of `halt`. -/
theorem haltOrHaltBug : Obligations.HaltOrHaltBug := by
  unfold Obligations.HaltOrHaltBug
  intro s bug
  rw [exec_halt]
  have hbug (h : bug) := halt_of_request (s := recount (costOf .halt 1 s) s) h.1 h.2
  exact ⟨fun h => (hbug h).1, fun h => (hbug h).2, fun h => halt_of_no_bug (s := recount (costOf .halt 1 s) s) h⟩

/-! ### DI and EI (R336, R337) -/

theorem exec_di (s : State) : exec .di s = disableInterrupts (recount (costOf .di 1 s) s) := rfl

theorem exec_ei (s : State) : exec .ei s = enableInterrupts (recount (costOf .ei 1 s) s) := rfl

/-- EI with IME = 1 changes nothing, whatever EI_DELAY is (R337, log 11). -/
theorem enableInterrupts_of_ime {s : State} (h : s.ime = true) : enableInterrupts s = .next s := by
  cases hdelay : s.cfg.eiDelay with
  | none => exact enableInterrupts_next.2 (.inl ⟨hdelay, by rw [← h]⟩)
  | oneInstruction => exact enableInterrupts_next.2 (.inr ⟨hdelay, by rw [h, Bool.not_true, Bool.or_false, ← h]⟩)

/-- Settles O45: DI and EI under each delay, and EI with IME = 1. -/
theorem diAndEiWriteIme : Obligations.DiAndEiWriteIme := by
  unfold Obligations.DiAndEiWriteIme
  intro s
  rw [exec_di, exec_ei]
  refine ⟨fun hdelay => ⟨?_, ?_⟩, fun hdelay => ⟨?_, fun hime => ?_⟩, enableInterrupts_of_ime (s := recount (costOf .ei 1 s) s)⟩
  · rw [disableInterrupts, cfg_recount, hdelay]
    rfl
  · exact enableInterrupts_next.2 (.inl ⟨hdelay, rfl⟩)
  · rw [disableInterrupts, cfg_recount, hdelay]
    rfl
  · refine enableInterrupts_next.2 (.inr ⟨hdelay, ?_⟩)
    simp [recount, hime]

/-! ### The delayed EI (R337, R370) -/

/-- Only DI and EI write the waiting EI, and EI never clears it, so one that waits outlasts every instruction but DI. -/
theorem eiPending_of_exec {i : Instr} {s t : State} (h : exec i s = .next t) (hi : i ≠ .di) (hs : s.eiPending = true) :
    t.eiPending = true := by
  by_cases hei : i = .ei
  · subst hei
    rw [exec_ei] at h
    obtain ⟨-, rfl⟩ | ⟨-, rfl⟩ := enableInterrupts_next.1 h
    · exact hs
    · exact Bool.or_eq_true_iff.2 (.inl hs)
  · obtain ⟨-, -, hwrite, -⟩ := onlyNamedInstructionsWriteControlState i s t h
    by_contra hne
    obtain h' | h' := hwrite fun e => hne (e.trans hs)
    · exact hi h'
    · exact hei h'

/-- Settles O51: with nothing armed the Step ends as EI leaves it; with an EI armed it ends with the enable, unless DI has cancelled
it. -/
theorem delayedEiEnablesAfterOneInstruction : Obligations.DelayedEiEnablesAfterOneInstruction := by
  unfold Obligations.DelayedEiEnablesAfterOneInstruction
  intro s t i hdelay hat hstep
  rw [engineStep_at hat] at hstep
  obtain ⟨u, hu, ht⟩ := andThen_next.1 hstep
  obtain rfl := next_inj.1 ht
  refine ⟨fun hnone hei => ?_, fun harmed => ?_⟩
  · subst hei
    rw [exec_ei] at hu
    have hidle : eiArmed s = false := by simp [eiArmed, hnone]
    obtain ⟨hd, -⟩ | ⟨-, rfl⟩ := enableInterrupts_next.1 hu
    · exact absurd (hdelay.symm.trans hd) (by decide)
    · rw [hidle]
      exact ⟨by simp [settleEi, recount, afterFetch, hnone], rfl⟩
  · have harm : eiArmed s = true := by simp [eiArmed, hdelay, harmed]
    rw [harm]
    by_cases hdi : i = .di
    · subst hdi
      rw [exec_di] at hu
      obtain rfl := disableInterrupts_next.1 hu
      simp [settleEi, recount, afterFetch, hdelay]
    · have hwait := eiPending_of_exec hu hdi harmed
      simp [settleEi, hwait, hdi]

end Sys2Proof.Machine
end

section
/-! The HALT bug's two readings over the Step: under RepeatNextByte the next byte is fetched twice (R333); under Rewind the HALT runs
again for ever (R332, R433), because nothing in a step withdraws the request or changes the byte at PC. -/

namespace Sys2Proof.Machine

open Laws.EncodedLength (announced)

/-! ### The double fetch (R333) -/

/-- With a HALT bug waiting, the opcode fetch leaves PC and ends the wait. -/
theorem fetchOpcode_haltBug {s : State} (hmode : s.cfg.haltBugMode = .repeatNextByte) (hbug : s.haltBugPending = true)
    (hopen : open_ s.pc s) (hquiet : drawn s.pc s = false) (k : Byte → State → Out) :
    fetchOpcode s k = k (stored s.pc s) { s with haltBugPending := false } := by
  rw [fetchOpcode, if_pos (by simp [hmode, hbug]), read8_open _ hopen, readByte_of_not_drawn hquiet, afterRead_of_not_drawn hquiet]

/-- The whole fetch then takes the byte at PC as the opcode and once more as the first byte after it. -/
theorem fetchInstr_haltBug {s : State} {i : Instr} {rest : List Byte} (hmode : s.cfg.haltBugMode = .repeatNextByte)
    (hbug : s.haltBugPending = true) (hopen : open_ s.pc s) (hopen' : open_ (s.pc + 1) s) (hquiet : drawn s.pc s = false)
    (hquiet' : drawn (s.pc + 1) s = false)
    (hdec : decode [stored s.pc s, stored s.pc s, stored (s.pc + 1) s] = .ok (i, rest)) (k : Instr → State → Out) :
    fetchInstr s k = k i { s with haltBugPending := false, pc := s.pc + BitVec.ofNat 16 ((encode i).length - 1) } := by
  rw [fetchInstr, fetchOpcode_haltBug hmode hbug hopen hquiet]
  have hlen (b1 b2 : Byte) := encode_length_decodeBytes (stored s.pc s) b1 b2
  unfold announced at hlen
  have hfirst (k : Byte → State → Out) : fetch8 { s with haltBugPending := false } k =
      k (stored s.pc s) { s with haltBugPending := false, pc := s.pc + 1 } := fetch8_quiet hopen hquiet
  have hsecond (k : Byte → State → Out) : fetch8 { s with haltBugPending := false, pc := s.pc + 1 } k =
      k (stored (s.pc + 1) s) { s with haltBugPending := false, pc := s.pc + 1 + 1 } := fetch8_quiet hopen' hquiet'
  unfold decode at hdec
  cases hl : lengthOf (stored s.pc s)
  all_goals
    simp only [hl, Except.ok.injEq, Prod.mk.injEq] at hdec hlen ⊢
    obtain ⟨rfl, -⟩ := hdec
    rw [hlen]
  case one => simp
  case two => rw [hfirst]; rfl
  case three => rw [hfirst, hsecond, BitVec.add_assoc]; rfl

/-- Settles O50: the engine's step is the double fetch, the instruction's effect and the EI settlement; then the timers and the
environment. -/
theorem haltBugRepeatsTheByte : Obligations.HaltBugRepeatsTheByte := by
  unfold Obligations.HaltBugRepeatsTheByte
  intro s i rest hmode hbug hrun hundisturbed hopen hopen' hquiet hquiet' hdec
  have hengine : engineStep exec s = instructionStep exec s := by
    simp [engineStep, wake_running hrun, hundisturbed, hrun]
  simp only [step_eq, hengine, instructionStep, fetchInstr_haltBug hmode hbug hopen hopen' hquiet hquiet' hdec, andThen_assoc,
    andThen_of_next, settleEi_eiArmed]

/-! ### What the timers and the environment leave alone -/

/-- Setting bits of IF withdraws no request. -/
theorem pending_of_or (s : State) {t : State} (v : Byte) (hie : t.ie = s.ie) (hif : t.ifr = s.ifr ||| v) (h : pending s ≠ 0) :
    pending t ≠ 0 := by
  have hor : pending t = pending s ||| (s.ie &&& v &&& 0x1F) := by
    rw [pending, hie, hif, BitVec.and_or_distrib_left, BitVec.and_or_distrib_right, pending]
  exact fun h0 => h (BitVec.or_eq_zero_iff.1 (hor.symm.trans h0)).1

theorem pending_timaTicks (n : Nat) {s : State} (h : pending s ≠ 0) : pending (timaTicks n s) ≠ 0 := by
  induction n generalizing s with
  | zero => exact h
  | succ n ih =>
    refine ih ?_
    unfold timaTick
    split
    · exact pending_of_or s 0x04 rfl rfl h
    · exact h

theorem pending_advanceTimers (n : Nat) {s : State} (h : pending s ≠ 0) : pending (advanceTimers n s) ≠ 0 := by
  have hdiv (m : Nat) : pending (advanceDivider m s) = pending s := by rw [pending, advanceDivider_ie, advanceDivider_ifr, pending]
  rw [← hdiv (n * s.cfg.timerTicksPerCycle)] at h
  unfold advanceTimers advanceTimer
  split
  · exact pending_timaTicks _ h
  · exact h

theorem pending_envTurn {s : State} (h : pending s ≠ 0) : pending (envTurn s) ≠ 0 := by
  unfold envTurn
  split
  · exact h
  · exact pending_of_or s _ (envWrites_ie _ _) (envWrites_ifr _ _) h

/-- The timers change bytes of the I/O block only. -/
theorem stored_advanceTimers (n : Nat) {a : Word} (s : State) (h : a.toNat < 0xFF00) :
    stored a (advanceTimers n s) = stored a s := by
  have hle : a.toNat ≤ 0xFEFF := Nat.le_of_lt_succ h
  rw [advanceTimers_frame]
  unfold stored
  simp only [hle, if_true]
  rfl

/-- The environment writes devices' bytes only (R391). -/
theorem stored_envWrites (ws : List (Word × Byte)) {a : Word} (s : State) (h : isDeviceIo a = false) :
    stored a (envWrites ws s) = stored a s := by
  induction ws generalizing s with
  | nil => rfl
  | cons w ws ih =>
    rw [envWrites, ih]
    split
    · rename_i hw
      have hne : a ≠ w.1 := fun e => by simp [e, hw] at h
      obtain ⟨hlow, -⟩ := (isDeviceIo_iff _).1 hw
      rw [← store_device w.2 s hw, stored_store_other w.2 s (by omega) hne]
    · rfl

/-- Besides, the environment sets bits of IF (R391). -/
theorem stored_envTurn {a : Word} (s : State) (h : isDeviceIo a = false) (hif : a ≠ 0xFF0F) : stored a (envTurn s) = stored a s := by
  unfold envTurn
  split
  · rfl
  · rw [stored_envWrites _ _ h]
    obtain ⟨-, -, -, -, hreq, -⟩ := stored_other_register (b := a) (s.ifr ||| envRequests _) s
    exact hreq hif

/-! ### The livelock (R332, R433) -/

/-- The next step runs a HALT below the I/O block that is the HALT bug under Rewind, with no EI delay. -/
structure AtHaltBug (s : State) : Prop where
  rewind : s.cfg.haltBugMode = .rewind
  noHaltBug : s.haltBugPending = false
  noDelay : s.cfg.eiDelay = .none
  running : s.halted = false
  imeOff : s.ime = false
  request : pending s ≠ 0
  belowIo : s.pc.toNat < 0xFF00
  atHalt : stored s.pc s = 0x76
  fetchable : open_ s.pc s

/-- What the livelock leaves unchanged: PC, SP and the registers. -/
def heldRegisters (s : State) : Word × Word × Byte × Byte × Byte × Byte × Byte × Byte × Byte × Byte :=
  (s.pc, s.sp, s.a, s.f, s.b, s.c, s.d, s.e, s.h, s.l)

theorem AtHaltBug.atInstruction {s : State} (h : AtHaltBug s) : AtInstruction .halt s where
  running := h.running
  undisturbed := by simp [dispatchDue, h.imeOff]
  noHaltBug := h.noHaltBug
  decodes := ⟨_, by rw [h.atHalt]; rfl⟩
  fetchable k hk := by
    obtain rfl : k = 0 := Nat.lt_one_iff.1 hk
    rw [show s.pc + BitVec.ofNat 16 0 = s.pc from BitVec.add_zero _]
    exact ⟨h.fetchable, drawn_outside_io s (by have := h.belowIo; omega)⟩

/-- The Step fetches the HALT, and the HALT takes PC back: only the count changes. -/
theorem AtHaltBug.engineStep {s : State} (h : AtHaltBug s) :
    engineStep exec s = .next (recount (costOf .halt 1 s) s) := by
  have hpc : s.pc + 1 - 1 = s.pc := BitVec.add_sub_cancel _ _
  have hhalt : exec .halt (afterFetch .halt s) = .next (recount (costOf .halt 1 s) s) := by
    rw [exec_halt, (halt_of_request (s := recount _ (afterFetch .halt s)) h.imeOff h.request).1 h.rewind]
    show Host.Outcome.next { s with halted := false, pc := s.pc + 1 - 1, cycles := _ } = _
    rw [hpc, ← h.running]
    rfl
  have hidle : eiArmed s = false := by simp [eiArmed, h.noDelay]
  rw [engineStep_at h.atInstruction, hhalt, hidle]
  rfl

/-- The machine after the step: the count, then the timers, then the environment. -/
def haltBugTurn (s : State) : State :=
  envTurn (advanceTimers (costOf .halt 1 s) (recount (costOf .halt 1 s) s))

theorem AtHaltBug.step {s : State} (h : AtHaltBug s) : step s = .next (haltBugTurn s) := step_next.2 ⟨_, h.engineStep, rfl⟩

theorem heldRegisters_haltBugTurn (s : State) : heldRegisters (haltBugTurn s) = heldRegisters s := by
  simp [heldRegisters, haltBugTurn, recount]

/-- Neither the timers nor the environment end the HALT bug. -/
theorem AtHaltBug.turn {s : State} (h : AtHaltBug s) : AtHaltBug (haltBugTurn s) := by
  have hpc : (haltBugTurn s).pc = s.pc := by simp [haltBugTurn, recount]
  have hcfg : (haltBugTurn s).cfg = s.cfg := by simp [haltBugTurn]
  have hbelow := h.belowIo
  have hio : isDeviceIo s.pc = false := Bool.eq_false_iff.2 fun hd => by
    obtain ⟨hlow, -⟩ := (isDeviceIo_iff _).1 hd
    omega
  have hstored : stored s.pc (haltBugTurn s) = stored s.pc s := by
    rw [haltBugTurn, stored_envTurn _ hio (fun e => by simp [e] at hbelow), stored_advanceTimers _ _ hbelow, stored_recount]
  exact {
    rewind := hcfg ▸ h.rewind
    noHaltBug := by simp [haltBugTurn, recount, h.noHaltBug]
    noDelay := hcfg ▸ h.noDelay
    running := by simp [haltBugTurn, recount, h.running]
    imeOff := by simp [haltBugTurn, recount, h.imeOff]
    request := pending_envTurn (pending_advanceTimers _ h.request)
    belowIo := hpc ▸ hbelow
    atHalt := by rw [hpc, hstored, h.atHalt]
    fetchable := by rw [hpc, open_eq hcfg]; exact h.fetchable }

theorem run_succ {M : Host.Core} {s u : M.State} (h : M.step s = .next u) (n : Nat) : M.run (n + 1) s = M.run n u := by
  rw [Host.Core.run, h]

/-- However many steps are run, the machine is still at the HALT bug, with the registers it had. -/
theorem AtHaltBug.run {s : State} (h : AtHaltBug s) (n : Nat) :
    ∃ t : State, core.run n s = .next t ∧ AtHaltBug t ∧ heldRegisters t = heldRegisters s := by
  induction n generalizing s with
  | zero => exact ⟨s, rfl, h, rfl⟩
  | succ n ih =>
    obtain ⟨t, hrun, ht, hregs⟩ := ih h.turn
    exact ⟨t, (run_succ (M := core) h.step n).trans hrun, ht, hregs.trans (heldRegisters_haltBugTurn s)⟩

/-- Settles O49, by `AtHaltBug.run`. -/
theorem haltBugLivelocks : Obligations.HaltBugLivelocks := by
  unfold Obligations.HaltBugLivelocks
  intro n s hmode hbug hdelay hrun hime hreq hbelow hhalt hopen
  obtain ⟨t, ht, hat, hregs⟩ := AtHaltBug.run ⟨hmode, hbug, hdelay, hrun, hime, hreq, hbelow, hhalt, hopen⟩ n
  simp only [heldRegisters, Prod.mk.injEq] at hregs
  obtain ⟨hpc, hrest⟩ := hregs
  exact ⟨t, ht, hpc, hat.atHalt, hat.imeOff, hat.running, hat.request, hrest⟩

end Sys2Proof.Machine
end

section
/-! The wake and the dispatch (R370 to R374): a request that is enabled and pending ends the halt, and with IME set the lowest one
is taken. -/

namespace Sys2Proof.Machine

/-- A request that is enabled and pending ends the halt, whatever IME holds (R371). -/
theorem wake_of_request {s : State} (h : pending s ≠ 0) : wake s = { s with halted := false } :=
  if_pos (bne_iff_ne.2 h)

/-! ### Dispatch (R372 to R374) -/

theorem dispatchDue_of_ime_off {s : State} (h : s.ime = false) : dispatchDue s = none := by simp [dispatchDue, h]

/-- `pending` has the five requests' bits of IE and IF as they are (R16). -/
theorem getLsbD_pending (s : State) {k : Nat} (hk : k < 5) : (pending s).getLsbD k = (s.ie &&& s.ifr).getLsbD k := by
  have hmask : ∀ k < 5, (0x1F : Byte).getLsbD k = true := by decide
  rw [pending, BitVec.getLsbD_and, hmask k hk, Bool.and_true]

/-- The bits and vectors of R374, read as the sources they belong to. -/
theorem exists_irqSource {i : Nat} {v : Word}
    (h : (i, v) ∈ [(0, (0x0040 : Word)), (1, 0x0048), (2, 0x0050), (3, 0x0058), (4, 0x0060)]) :
    ∃ src, i = irqBit src ∧ v = vector src := by
  simp only [List.mem_cons, List.not_mem_nil, or_false, Prod.mk.injEq] at h
  obtain h | h | h | h | h := h
  · exact ⟨.vblank, h⟩
  · exact ⟨.lcd, h⟩
  · exact ⟨.timer, h⟩
  · exact ⟨.serial, h⟩
  · exact ⟨.joypad, h⟩

/-- The source whose bit is pending, with none pending below it, is the one a Step takes (R373). -/
theorem topRequest_of_lowest {s : State} {src : IrqSource} (hsrc : (pending s).getLsbD (irqBit src) = true)
    (hlow : ∀ j < irqBit src, (pending s).getLsbD j = false) : topRequest s = some src := by
  unfold topRequest
  cases src <;> simp only [irqBit] at hsrc hlow
  case vblank => rw [if_pos hsrc]
  case lcd => rw [hlow 0 (by decide), if_pos hsrc]; rfl
  case timer => rw [hlow 0 (by decide), hlow 1 (by decide), if_pos hsrc]; rfl
  case serial => rw [hlow 0 (by decide), hlow 1 (by decide), hlow 2 (by decide), if_pos hsrc]; rfl
  case joypad => rw [hlow 0 (by decide), hlow 1 (by decide), hlow 2 (by decide), hlow 3 (by decide), if_pos hsrc]; rfl

/-- With IME set the wake leaves the lowest request to be dispatched. -/
theorem dispatchDue_wake_of_ime {s : State} (h : s.ime = true) : dispatchDue (wake s) = topRequest s := by
  rw [dispatchDue, wake_ime, h, topRequest, pending_wake, if_pos rfl, topRequest]

/-- Settles O47: the lowest request is the source the engine takes, from the state the wake leaves. -/
theorem dispatchTakesTheLowestRequest : Obligations.DispatchTakesTheLowestRequest := by
  unfold Obligations.DispatchTakesTheLowestRequest
  intro s i v hmem hime hreq hlow hopen
  obtain ⟨src, rfl, rfl⟩ := exists_irqSource hmem
  have hlt : irqBit src < 5 := by cases src <;> decide
  have hbit : (pending s).getLsbD (irqBit src) = true := (getLsbD_pending s hlt).trans hreq
  have hdue : dispatchDue (wake s) = some src := by
    rw [dispatchDue_wake_of_ime hime]
    exact topRequest_of_lowest hbit fun j hj => (getLsbD_pending s (hj.trans hlt)).trans (hlow j hj)
  have hpending : pending s ≠ 0 := fun h0 => by simp [h0] at hbit
  refine step_next.2 ⟨setPC (vector src) (pushed s.pc { s with
    halted := false, ime := false, ifr := s.ifr &&& ~~~(BitVec.twoPow 8 (irqBit src)), cycles := 5 }), ?_, ?_⟩
  · rw [engineStep, hdue, wake_of_request hpending]
    exact takeInterrupt_next.2 ⟨hopen, rfl⟩
  · rw [setPC_cycles, pushed_cycles]
    rfl

/-! ### The halted core (R370, R371) -/

/-- The engine steps from the state the wake leaves. -/
theorem engineStep_of_wake_eq {run : Instr → State → Out} {s t : State} (h : wake s = wake t) :
    engineStep run s = engineStep run t := by
  rw [engineStep, engineStep, h]

/-- Settles O48: with a request the engine sees only the state the wake leaves, which is running; with none it only counts. -/
theorem haltedCoreWakesOrCountsTime : Obligations.HaltedCoreWakesOrCountsTime := by
  unfold Obligations.HaltedCoreWakesOrCountsTime
  refine fun s => ⟨fun hreq => ⟨?_, fun hime => ?_⟩, fun hhalted hnone => ?_⟩
  · have hwake : wake s = wake { s with halted := false } := (wake_of_request hreq).trans (wake_running rfl).symm
    rw [step_eq, step_eq, engineStep_of_wake_eq hwake]
  · have hdue : dispatchDue { s with halted := false } = none := dispatchDue_of_ime_off hime
    rw [engineStep, wake_of_request hreq, hdue]
    rfl
  · exact step_next.2 ⟨haltedStep s, engineStep_halted hhalted hnone, rfl⟩

end Sys2Proof.Machine
end

section
/-! The timers (R380 to R387): what the loops of R380 come to, and TIMA's count as arithmetic. -/

namespace Sys2Proof.Machine

/-! ### What AdvanceTimers leaves in the accumulators and in TIMA (R380, R383) -/

/-- Under DIV_MODE = Literal the divider's accumulator keeps the ticks past the last full 256. -/
theorem advanceTimers_divAccum {s : State} (h : s.cfg.divMode = .literal) (cycles : Nat) :
    (advanceTimers cycles s).divAccum = (s.divAccum + cycles * s.cfg.timerTicksPerCycle) % 256 := by
  rw [advanceTimers, advanceTimer_divAccum, advanceDivider, h]

/-- With the timer off AdvanceTimers is the divider's share. -/
theorem advanceTimers_of_off {s : State} (h : timerOn s = false) (cycles : Nat) :
    advanceTimers cycles s = advanceDivider (cycles * s.cfg.timerTicksPerCycle) s := by
  have hoff : timerOn (advanceDivider (cycles * s.cfg.timerTicksPerCycle) s) = false := by rwa [timerOn, advanceDivider_tac]
  rw [advanceTimers, advanceTimer, hoff]
  rfl

/-- With the timer on the ticks make as many increments as they hold periods, and the rest stays in the accumulator. -/
theorem advanceTimers_of_on {s : State} (h : timerOn s = true) (cycles : Nat) :
    advanceTimers cycles s = timaTicks ((s.timerAccum + cycles * s.cfg.timerTicksPerCycle) / period s.tac)
      { advanceDivider (cycles * s.cfg.timerTicksPerCycle) s with
        timerAccum := (s.timerAccum + cycles * s.cfg.timerTicksPerCycle) % period s.tac } := by
  have hon : timerOn (advanceDivider (cycles * s.cfg.timerTicksPerCycle) s) = true := by rwa [timerOn, advanceDivider_tac]
  rw [advanceTimers, advanceTimer, if_pos hon]
  simp only [advanceDivider_timerAccum, advanceDivider_tac]

/-! ### The loops (R380) -/

/-- Below 256 the divider's loop has come to its end. -/
theorem divLoop_of_lt {fuel : Nat} {s : State} (h : s.divAccum < 256) : divLoop fuel s =
    { s with divAccum := s.divAccum % 256, divider := s.divider + BitVec.ofNat 16 (s.divAccum / 256) } := by
  rw [Nat.mod_eq_of_lt h, Nat.div_eq_of_lt h, BitVec.add_zero]
  cases fuel with
  | zero => rfl
  | succ fuel => exact if_neg (Nat.not_le_of_lt h)

/-- With fuel enough the divider's loop is a division by 256. -/
theorem divLoop_eq {fuel : Nat} {s : State} (hfuel : s.divAccum ≤ fuel) : divLoop fuel s =
    { s with divAccum := s.divAccum % 256, divider := s.divider + BitVec.ofNat 16 (s.divAccum / 256) } := by
  induction fuel generalizing s with
  | zero => exact divLoop_of_lt (by omega)
  | succ fuel ih =>
    by_cases h : 256 ≤ s.divAccum
    · have hdiv : s.divAccum / 256 = (s.divAccum - 256) / 256 + 1 := Nat.div_eq_sub_div (by decide) h
      rw [divLoop, if_pos h, ih (by simp only; omega), Nat.mod_eq_sub_mod h, hdiv, BitVec.ofNat_add,
        BitVec.add_comm (BitVec.ofNat 16 _), ← BitVec.add_assoc]
      rfl
    · exact divLoop_of_lt (Nat.lt_of_not_le h)

/-- The divider's case of R380 is what the model computes. -/
theorem dividerByLoop_eq (n : Nat) (s : State) : dividerByLoop n s = advanceDivider n s := by
  unfold dividerByLoop advanceDivider
  cases s.cfg.divMode with
  | literal => exact divLoop_eq (Nat.le_refl _)
  | cycleCounter => rw [BitVec.ofNat_add, BitVec.ofNat_toNat, BitVec.setWidth_eq]

/-- Below a period the timer's loop has come to its end. -/
theorem timerLoop_of_lt {p fuel : Nat} {s : State} (h : s.timerAccum < p) : timerLoop p fuel s =
    timaTicks (s.timerAccum / p) { s with timerAccum := s.timerAccum % p } := by
  rw [Nat.mod_eq_of_lt h, Nat.div_eq_of_lt h]
  cases fuel with
  | zero => rfl
  | succ fuel => exact if_neg (Nat.not_le_of_lt h)

/-- Once round the timer's loop: a period less in the accumulator, and one increment of TIMA. -/
theorem timerLoop_round {p fuel : Nat} {s : State} (h : p ≤ s.timerAccum) : timerLoop p (fuel + 1) s =
    timerLoop p fuel { timaTick s with timerAccum := s.timerAccum - p } := by
  rw [timerLoop, if_pos h, timaTick]
  split <;> rfl

/-- An increment of TIMA does not read the accumulator. -/
theorem timaTick_withTimerAccum (n : Nat) (s : State) :
    timaTick { s with timerAccum := n } = { timaTick s with timerAccum := n } := by
  unfold timaTick
  split <;> rfl

/-- With fuel enough the timer's loop is a division by the period. -/
theorem timerLoop_eq {p fuel : Nat} {s : State} (hp : 0 < p) (hfuel : s.timerAccum ≤ fuel) : timerLoop p fuel s =
    timaTicks (s.timerAccum / p) { s with timerAccum := s.timerAccum % p } := by
  induction fuel generalizing s with
  | zero => exact timerLoop_of_lt (by omega)
  | succ fuel ih =>
    by_cases h : p ≤ s.timerAccum
    · rw [timerLoop_round h, ih (by simp only; omega), Nat.div_eq_sub_div hp h, Nat.mod_eq_sub_mod h, timaTicks,
        timaTick_withTimerAccum ((s.timerAccum - p) % p)]
    · exact timerLoop_of_lt (Nat.lt_of_not_le h)

/-- The clock select of R384 read as a number. -/
theorem period_eq (tac : Byte) : period tac =
    if tac.toNat % 4 = 0 then 1024 else if tac.toNat % 4 = 1 then 16 else if tac.toNat % 4 = 2 then 64 else 256 := by
  have hselect (n : Nat) (hn : n < 4) : tac.extractLsb' 0 2 = BitVec.ofNat 2 n ↔ tac.toNat % 4 = n := by
    rw [extractLsb'_zero_eq, ← BitVec.toNat_inj, BitVec.toNat_ofNat, BitVec.toNat_ofNat]
    omega
  rw [period]
  exact if_congr (hselect 0 (by decide)) rfl
    (if_congr (hselect 1 (by decide)) rfl (if_congr (hselect 2 (by decide)) rfl rfl))

theorem periodOf_eq (tac : Byte) : periodOf tac = period tac := by
  rw [period_eq, periodOf]
  split <;> simp_all

/-- The timer's case of R380 is what the model computes. -/
theorem timerByLoop_eq (n : Nat) (s : State) : timerByLoop n s = advanceTimer n s := by
  rw [timerByLoop, periodOf_eq]
  exact if_congr Iff.rfl (timerLoop_eq (period_pos _) (Nat.le_refl _)) rfl

theorem timersByLoop_eq (cycles : Nat) (s : State) : timersByLoop cycles s = advanceTimers cycles s := by
  rw [timersByLoop, timerByLoop_eq, dividerByLoop_eq, advanceTimers]

/-- Settles O52: each loop is its division, so each accumulator ends as a remainder. -/
theorem advanceTimersRunsTheLoops : Obligations.AdvanceTimersRunsTheLoops := by
  unfold Obligations.AdvanceTimersRunsTheLoops
  intro cycles s
  rw [timersByLoop_eq, periodOf_eq]
  refine ⟨rfl, fun hmode => ?_, fun hon => ?_⟩
  · rw [advanceTimers_divAccum hmode]
    exact Nat.mod_lt _ (by decide)
  · rw [advanceTimers_of_on hon, timaTicks_timerAccum]
    exact Nat.mod_lt _ (period_pos _)

/-! ### TIMA's count (R385, R387) -/

theorem timaTick_of_full {s : State} (h : s.tima.toNat = 255) : timaTick s = { s with tima := s.tma, ifr := s.ifr ||| 0x04 } :=
  if_pos (BitVec.eq_of_toNat_eq h)

theorem timaTick_of_lt {s : State} (h : s.tima.toNat < 255) :
    (timaTick s).tima.toNat = s.tima.toNat + 1 ∧ (timaTick s).ifr = s.ifr := by
  have hne : s.tima ≠ 0xFF := fun e => by simp [e] at h
  rw [timaTick, if_neg hne]
  exact ⟨by rw [BitVec.toNat_add]; exact Nat.mod_eq_of_lt (by simp; omega), rfl⟩

/-- Increments that stay within a byte only count. -/
theorem timaTicks_of_fits {k : Nat} {s : State} (h : s.tima.toNat + k ≤ 255) :
    (timaTicks k s).tima.toNat = s.tima.toNat + k ∧ (timaTicks k s).ifr = s.ifr := by
  induction k generalizing s with
  | zero => exact ⟨rfl, rfl⟩
  | succ k ih =>
    obtain ⟨htima, hifr⟩ := timaTick_of_lt (s := s) (by omega)
    obtain ⟨htima', hifr'⟩ := ih (s := timaTick s) (by omega)
    exact ⟨by rw [timaTicks]; omega, hifr'.trans hifr⟩

/-- Increments past 255 go round from TMA to 255, and each overflow sets IF bit 2. -/
theorem timaTicks_of_overflow {k : Nat} {s : State} (h : s.tima.toNat + k > 255) :
    (timaTicks k s).tima.toNat = s.tma.toNat + (s.tima.toNat + k - 256) % (256 - s.tma.toNat) ∧
      (timaTicks k s).ifr = s.ifr ||| 0x04 := by
  have htma := s.tma.isLt
  induction k generalizing s with
  | zero => exact absurd s.tima.isLt (by omega)
  | succ k ih =>
    rw [timaTicks]
    by_cases hfull : s.tima.toNat = 255
    · rw [timaTick_of_full hfull]
      rw [show s.tima.toNat + (k + 1) - 256 = k by omega]
      by_cases hfits : s.tma.toNat + k ≤ 255
      · obtain ⟨htima, hifr⟩ := timaTicks_of_fits (s := { s with tima := s.tma, ifr := s.ifr ||| 0x04 }) hfits
        exact ⟨by rw [htima, Nat.mod_eq_of_lt (by omega)], hifr⟩
      · obtain ⟨htima, hifr⟩ := ih (s := { s with tima := s.tma, ifr := s.ifr ||| 0x04 }) (by simp only; omega) htma
        refine ⟨?_, by rw [hifr, BitVec.or_assoc, BitVec.or_self]⟩
        rw [htima, Nat.mod_eq_sub_mod (a := k) (by omega), show s.tma.toNat + k - 256 = k - (256 - s.tma.toNat) by omega]
    · obtain ⟨htima, hifr⟩ := timaTick_of_lt (s := s) (by have := s.tima.isLt; omega)
      obtain ⟨htima', hifr'⟩ := ih (s := timaTick s) (by omega) (by rwa [timaTick_tma])
      rw [timaTick_tma] at htima'
      exact ⟨by rw [htima', htima, Nat.add_right_comm, Nat.add_assoc], hifr'.trans (by rw [hifr])⟩

/-- Settles O53: the divider's share touches none of TIMA, its accumulator and IF, and the timer's share is the increments. -/
theorem timaCountsReloadsAndRequests : Obligations.TimaCountsReloadsAndRequests := by
  unfold Obligations.TimaCountsReloadsAndRequests
  rintro cycles s t rfl p total k
  have hp : p = period s.tac := (period_eq s.tac).symm
  refine ⟨fun hoff => ?_, fun hon => ?_⟩
  · rw [advanceTimers_of_off hoff]
    exact ⟨advanceDivider_tima _ _, advanceDivider_timerAccum _ _, advanceDivider_ifr _ _⟩
  · rw [advanceTimers_of_on hon, ← hp]
    refine ⟨timaTicks_timerAccum _ _, fun hfits => ?_, fun hover => ?_⟩
    · simpa using timaTicks_of_fits (s := { advanceDivider _ s with timerAccum := total % p }) (by simpa using hfits)
    · simpa using timaTicks_of_overflow (s := { advanceDivider _ s with timerAccum := total % p }) (by simpa using hover)

end Sys2Proof.Machine
end

section
/-! The environment's turn (R391): the requests and the device bytes of one input. -/

namespace Sys2Proof.Machine

/-- The turn takes the first of the coming inputs: it sets the input's requests, then writes its bytes in order. -/
theorem envTurn_of_cons {s : State} {i : EnvInput} {rest : List EnvInput} (h : s.env = i :: rest) :
    envTurn s = envWrites i.ioWrites { s with env := rest, ifr := s.ifr ||| envRequests i } := by
  rw [envTurn, h]

/-! ### The requests -/

/-- One request's bit, or none. -/
theorem getLsbD_request (b : Bool) {n : Nat} (hn : n < 8) (k : Nat) :
    (if b then BitVec.twoPow 8 n else 0).getLsbD k = (decide (k = n) && b) := by
  cases b
  · simp
  · rw [if_pos rfl, BitVec.getLsbD_twoPow, decide_eq_true hn, Bool.true_and, Bool.and_true]
    exact decide_eq_decide.2 eq_comm

/-- An input sets among bits 0, 1, 3 and 4 those it names, and no other. -/
theorem getLsbD_envRequests (i : EnvInput) (k : Nat) : (envRequests i).getLsbD k =
    ((decide (k = 0) && i.vblank) || (decide (k = 1) && i.lcd) || (decide (k = 3) && i.serial) || (decide (k = 4) && i.joypad)) := by
  rw [← getLsbD_request i.vblank (by decide), ← getLsbD_request i.lcd (by decide), ← getLsbD_request i.serial (by decide),
    ← getLsbD_request i.joypad (by decide), ← BitVec.getLsbD_or, ← BitVec.getLsbD_or, ← BitVec.getLsbD_or]
  rfl

/-! ### The device bytes -/

theorem envWrites_append (ws ws' : List (Word × Byte)) (s : State) :
    envWrites (ws ++ ws') s = envWrites ws' (envWrites ws s) := by
  induction ws generalizing s with
  | nil => rfl
  | cons w ws ih => exact ih _

/-- A write of a device's byte is a store of the Bus. -/
theorem envWrites_cons_device {a : Word} (h : isDeviceIo a = true) (v : Byte) (ws : List (Word × Byte)) (s : State) :
    envWrites ((a, v) :: ws) s = envWrites ws (store a v s) := by
  rw [envWrites, if_pos h, store_device v s h]

/-- A byte no write names stays as it is. -/
theorem stored_envWrites_of_unnamed {a : Word} {ws : List (Word × Byte)} (h : ∀ v, (a, v) ∉ ws) (s : State) :
    stored a (envWrites ws s) = stored a s := by
  induction ws generalizing s with
  | nil => rfl
  | cons w ws ih =>
    obtain ⟨b, v⟩ := w
    have hrest (v : Byte) : (a, v) ∉ ws := fun hv => h v (List.mem_cons_of_mem _ hv)
    by_cases hb : isDeviceIo b = true
    · have hne : a ≠ b := fun e => h v (e ▸ List.mem_cons_self)
      obtain ⟨hlow, -⟩ := (isDeviceIo_iff b).1 hb
      rw [envWrites_cons_device hb, ih hrest, stored_store_other v s (by omega) hne]
    · rw [envWrites, if_neg hb, ih hrest]

/-- The last write of a device's byte counts. -/
theorem stored_envWrites_of_last {a : Word} (ha : isDeviceIo a = true) (v : Byte) (earlier : List (Word × Byte))
    {later : List (Word × Byte)} (hlast : ∀ w, (a, w) ∉ later) {s : State} (hs : Inv s) :
    stored a (envWrites (earlier ++ (a, v) :: later) s) = v := by
  rw [envWrites_append, envWrites_cons_device ha, stored_envWrites_of_unnamed hlast]
  exact stored_store_plain v (hs.envWrites earlier).memCanonical ((isPlain_iff a).2 (.inr ha))

/-- Settles O54: the requests bit by bit, and each byte by the last write that names it, if one does. -/
theorem environmentSetsRequestsAndDeviceBytes : Obligations.EnvironmentSetsRequestsAndDeviceBytes := by
  unfold Obligations.EnvironmentSetsRequestsAndDeviceBytes
  refine fun s hs => ⟨fun henv => by rw [envTurn, henv], fun i rest henv => ?_⟩
  have hturn := envTurn_of_cons henv
  refine ⟨?frame, fun k => ?requests, fun a hif hother => ?unnamed, fun a v earlier later hws hlast ha => ?last⟩
  case frame =>
    rw [hturn]
    exact (envWrites_frame _ _).trans (by rw [envWrites_ifr])
  case requests =>
    rw [hturn, envWrites_ifr, BitVec.getLsbD_or, getLsbD_envRequests]
    simp only [Bool.or_assoc]
  case unnamed =>
    obtain hdev | hunnamed := hother
    · exact stored_envTurn s hdev hif
    · obtain ⟨-, -, -, -, hreq, -⟩ := stored_other_register (b := a) (s.ifr ||| envRequests i) s
      rw [hturn, stored_envWrites_of_unnamed hunnamed]
      exact hreq hif
  case last =>
    rw [hturn, hws]
    exact stored_envWrites_of_last ha v earlier hlast { hs with }

end Sys2Proof.Machine
end

section
/-! When the machine stops (R360, R362): only for an access to 0xE000 to 0xFEFF under UNMAPPED_POLICY = Fault, or for a STOP under
STOP_MODE = Stuck. `Lawful` says so of an outcome, and every piece of the machine is lawful if what it goes on with is. -/

namespace Sys2Proof.Machine

/-- The faults a step may end in under given parameters. -/
def Fault.Allowed (cfg : Config) : Fault → Prop
  | .stoppedForEver => cfg.stopMode = .stuck
  | .unmappedAccess a => 0xE000 ≤ a.toNat ∧ a.toNat ≤ 0xFEFF ∧ cfg.unmappedPolicy = .fault
  | .loadRefused _ => False

/-- The outcome is a next state with the same parameters, or an allowed fault. -/
def Lawful (cfg : Config) : Out → Prop
  | .next t => t.cfg = cfg
  | .fault r => r.Allowed cfg
  | .refused _ => False

theorem Lawful.andThen {cfg : Config} {o : Out} {k : State → Out} (ho : Lawful cfg o)
    (hk : ∀ u, u.cfg = cfg → Lawful cfg (k u)) : Lawful cfg (Machine.andThen o k) := by
  cases o with
  | next u => exact hk u ho
  | fault r => exact ho
  | refused r => exact ho

/-- Under parameters that refuse nothing a lawful outcome is a next state. -/
theorem Lawful.exists_next {cfg : Config} {o : Out} (ho : Lawful cfg o) (hbus : cfg.unmappedPolicy = .openBus)
    (hstop : cfg.stopMode ≠ .stuck) : ∃ t, o = .next t := by
  cases o with
  | next t => exact ⟨t, rfl⟩
  | fault r =>
    cases r with
    | stoppedForEver => exact absurd ho hstop
    | unmappedAccess a =>
      obtain ⟨-, -, hfault⟩ := ho
      exact absurd (hbus.symm.trans hfault) (by decide)
    | loadRefused why => exact ho.elim
  | refused r => exact ho.elim

/-- A lawful fault has one of the two grounds. -/
theorem Lawful.fault_cases {cfg : Config} {o : Out} {r : Fault} (ho : Lawful cfg o) (h : o = .fault r) :
    (r = .stoppedForEver ∧ cfg.stopMode = .stuck) ∨
      ∃ a : Word, r = .unmappedAccess a ∧ 0xE000 ≤ a.toNat ∧ a.toNat ≤ 0xFEFF ∧ cfg.unmappedPolicy = .fault := by
  subst h
  cases r with
  | stoppedForEver => exact .inl ⟨rfl, ho⟩
  | unmappedAccess a => exact .inr ⟨a, rfl, ho⟩
  | loadRefused why => exact ho.elim

theorem Lawful.ne_refused {cfg : Config} {o : Out} (ho : Lawful cfg o) (r : Refusal) : o ≠ .refused r := by
  rintro rfl
  exact ho

section
variable {cfg : Config} {s : State} (h : s.cfg = cfg)
include h

/-! ### The Bus and the operands (R62 to R66) -/

/-- An access stops in 0xE000 to 0xFEFF under UNMAPPED_POLICY = Fault only. -/
theorem allowed_of_faulting {a : Word} (hf : faulting a s = true) : (Fault.unmappedAccess a).Allowed cfg := by
  simp only [faulting, isUnmapped, Bool.and_eq_true, decide_eq_true_eq] at hf
  obtain ⟨hpolicy, hlow, hhigh⟩ := hf
  exact ⟨hlow, hhigh, h ▸ hpolicy⟩

theorem Lawful.read8 {a : Word} {k : Byte → State → Out} (hk : ∀ v u, u.cfg = cfg → Lawful cfg (k v u)) :
    Lawful cfg (Machine.read8 a s k) := by
  unfold Machine.read8
  split
  · rename_i hf
    exact allowed_of_faulting h hf
  · exact hk _ _ ((afterRead_cfg s a).trans h)

theorem Lawful.write8 {a : Word} {v : Byte} {k : State → Out} (hk : ∀ u, u.cfg = cfg → Lawful cfg (k u)) :
    Lawful cfg (Machine.write8 a v s k) := by
  unfold Machine.write8
  split
  · rename_i hf
    exact allowed_of_faulting h hf
  · exact hk _ ((store_cfg s a v).trans h)

theorem Lawful.readR8 {r : R8} {k : Byte → State → Out} (hk : ∀ v u, u.cfg = cfg → Lawful cfg (k v u)) :
    Lawful cfg (Machine.readR8 r s k) := by
  cases r with
  | mHL => exact .read8 h hk
  | B | C | D | E | H | L | A => exact hk _ _ h

theorem Lawful.writeR8 {r : R8} {v : Byte} {k : State → Out} (hk : ∀ u, u.cfg = cfg → Lawful cfg (k u)) :
    Lawful cfg (Machine.writeR8 r v s k) := by
  cases r with
  | mHL => exact .write8 h hk
  | B | C | D | E | H | L | A => exact hk _ h

theorem Lawful.writeBack (r : R8) (o : AluOut) : Lawful cfg (Machine.writeBack r o s) := .writeR8 h fun _ hu => hu

theorem Lawful.write16 {a v : Word} {k : State → Out} (hk : ∀ u, u.cfg = cfg → Lawful cfg (k u)) :
    Lawful cfg (Machine.write16 a v s k) := .write8 h fun _ hu => .write8 hu hk

/-! ### Loads, stores and arithmetic (R160 to R180, R201 to R220) -/

theorem Lawful.loadImm8 (d : R8) (n : Byte) : Lawful cfg (Machine.loadImm8 d n s) := .writeR8 h fun _ hu => hu

theorem Lawful.copyR8 (d r : R8) : Lawful cfg (Machine.copyR8 d r s) := .readR8 h fun _ _ hu => .writeR8 hu fun _ hu' => hu'

theorem Lawful.loadA (a : Word) : Lawful cfg (Machine.loadA a s) := .read8 h fun _ _ hu => hu

theorem Lawful.storeA (a : Word) : Lawful cfg (Machine.storeA a s) := .write8 h fun _ hu => hu

theorem Lawful.loadAThenHL (delta : Word) : Lawful cfg (Machine.loadAThenHL delta s) := .read8 h fun _ _ hu => hu

theorem Lawful.storeAThenHL (delta : Word) : Lawful cfg (Machine.storeAThenHL delta s) := .write8 h fun _ hu => hu

theorem Lawful.storeSP (nn : Word) : Lawful cfg (Machine.storeSP nn s) := .write16 h fun _ hu => hu

theorem Lawful.aluR8 (op : AluOp) (r : R8) : Lawful cfg (Machine.aluR8 op r s) := .readR8 h fun _ _ hu => hu

theorem Lawful.incR8 (r : R8) : Lawful cfg (Machine.incR8 r s) := .readR8 h fun _ _ hu => .writeBack hu r _

theorem Lawful.decR8 (r : R8) : Lawful cfg (Machine.decR8 r s) := .readR8 h fun _ _ hu => .writeBack hu r _

/-! ### The stack and control transfer (R13, R300 to R310) -/

theorem Lawful.push16 {v : Word} {k : State → Out} (hk : ∀ u, u.cfg = cfg → Lawful cfg (k u)) :
    Lawful cfg (Machine.push16 v s k) := .write16 (s := setSP (s.sp - 2) s) h hk

theorem Lawful.pop16 {k : Word → State → Out} (hk : ∀ v u, u.cfg = cfg → Lawful cfg (k v u)) :
    Lawful cfg (Machine.pop16 s k) :=
  .read8 h fun _ u hu => .read8 (s := setSP (u.sp + 1) u) hu fun _ _ hu' => hk _ _ hu'

theorem Lawful.pushPair (r : R16Stk) : Lawful cfg (Machine.pushPair r s) := .push16 h fun _ hu => hu

theorem Lawful.popPair (r : R16Stk) : Lawful cfg (Machine.popPair r s) :=
  .pop16 h fun v u hu => (writeStk_cfg u r v).trans hu

theorem Lawful.call (nn : Word) : Lawful cfg (Machine.call nn s) := .push16 h fun _ hu => hu

theorem Lawful.ret : Lawful cfg (Machine.ret s) := .pop16 h fun _ _ hu => hu

theorem Lawful.returnFromInterrupt : Lawful cfg (Machine.returnFromInterrupt s) := .pop16 h fun _ _ hu => hu

theorem Lawful.takeInterrupt (i : IrqSource) : Lawful cfg (Machine.takeInterrupt i s) := by
  unfold Machine.takeInterrupt
  refine .push16 ?_ fun _ hu => hu
  exact h

/-- A conditional form is lawful if its taken branch is. -/
theorem Lawful.branchIf {cc : Cond} {x : Slot} {base taken : Nat} {k : State → Out} (hk : ∀ u, u.cfg = cfg → Lawful cfg (k u)) :
    Lawful cfg (Machine.branchIf cc x base taken s k) := by
  unfold Machine.branchIf
  split
  · exact hk _ h
  · exact h

/-! ### The system instructions and the CB table (R264 to R274, R331 to R337) -/

/-- STOP stops under STOP_MODE = Stuck only. -/
theorem Lawful.stop (n : Byte) : Lawful cfg (Machine.stop n s) := by
  unfold Machine.stop
  split
  · exact h
  · exact h
  · rename_i hstuck
    exact (congrArg Config.stopMode h).symm.trans hstuck

theorem Lawful.halt : Lawful cfg (Machine.halt s) := by
  unfold Machine.halt
  split
  · split <;> exact h
  · exact h

theorem Lawful.disableInterrupts : Lawful cfg (Machine.disableInterrupts s) := by
  unfold Machine.disableInterrupts
  split <;> exact h

theorem Lawful.enableInterrupts : Lawful cfg (Machine.enableInterrupts s) := by
  unfold Machine.enableInterrupts
  split <;> exact h

theorem Lawful.cbShift (op : ShiftOp) (r : R8) : Lawful cfg (Machine.cbShift op r s) :=
  .readR8 h fun _ _ hu => .writeBack hu r _

theorem Lawful.cbBit (b : Idx8) (r : R8) : Lawful cfg (Machine.cbBit b r s) := .readR8 h fun _ _ hu => hu

theorem Lawful.cbRes (b : Idx8) (r : R8) : Lawful cfg (Machine.cbRes b r s) :=
  .readR8 h fun _ _ hu => .writeR8 hu fun _ hu' => hu'

theorem Lawful.cbSet (b : Idx8) (r : R8) : Lawful cfg (Machine.cbSet b r s) :=
  .readR8 h fun _ _ hu => .writeR8 hu fun _ hu' => hu'

theorem Lawful.cbOperate (op : Byte) : Lawful cfg (Machine.cbOperate op s) := by
  have hc : (charge (.cb op) (cbCost op) s).cfg = cfg := h
  unfold Machine.cbOperate
  split
  · exact .cbShift hc _ _
  · exact .cbBit hc _ _
  · exact .cbRes hc _ _
  · exact .cbSet hc _ _

/-! ### The fetch (R13, R121) -/

theorem Lawful.fetch8 {k : Byte → State → Out} (hk : ∀ v u, u.cfg = cfg → Lawful cfg (k v u)) :
    Lawful cfg (Machine.fetch8 s k) := .read8 h fun _ _ hu => hk _ _ hu

theorem Lawful.fetchOpcode {k : Byte → State → Out} (hk : ∀ v u, u.cfg = cfg → Lawful cfg (k v u)) :
    Lawful cfg (Machine.fetchOpcode s k) := by
  unfold Machine.fetchOpcode
  split
  · exact .read8 h fun _ _ hu => hk _ _ hu
  · exact .fetch8 h hk

theorem Lawful.fetchInstr {k : Instr → State → Out} (hk : ∀ i u, u.cfg = cfg → Lawful cfg (k i u)) :
    Lawful cfg (Machine.fetchInstr s k) := by
  refine .fetchOpcode h fun op u0 h0 => ?_
  cases lengthOf op with
  | one => exact hk _ _ h0
  | two => exact .fetch8 h0 fun b1 u1 h1 => hk _ _ h1
  | three => exact .fetch8 h0 fun b1 u1 h1 => .fetch8 h1 fun b2 u2 h2 => hk _ _ h2

/-! ### Every instruction and the engine (R370, R390, R391) -/

/-- Whatever an instruction's shape, it stops at the Bus or at STOP, or it completes. -/
theorem Lawful.run (x : Slot) (base taken : Nat) (sh : Shape) : Lawful cfg (sh.run x base taken s) := by
  have hc : (charge x base s).cfg = cfg := h
  cases sh with
  | copy d r => exact .copyR8 hc d r
  | loadImm8 d n => exact .loadImm8 hc d n
  | loadA => exact .loadA hc _
  | storeA => exact .storeA hc _
  | loadAHL delta => exact .loadAThenHL hc delta
  | storeAHL delta => exact .storeAThenHL hc delta
  | storeSP nn => exact .storeSP hc nn
  | push r => exact .pushPair hc r
  | pop r => exact .popPair hc r
  | alu op r => exact .aluR8 hc op r
  | inc r => exact .incR8 hc r
  | dec r => exact .decR8 hc r
  | loadImm16 r | incPair r | decPair r => exact (writeR16_cfg _ r _).trans hc
  | aluImm | daa | cpl | scf | ccf | addHL | addSP | loadHLSP | rotA | noOp | loadSPHL | jp | jpHL | jr => exact hc
  | cbShift op r => exact .cbShift hc op r
  | cbBit b r => exact .cbBit hc b r
  | cbRes b r => exact .cbRes hc b r
  | cbSet b r => exact .cbSet hc b r
  | call | rst => exact .call hc _
  | ret => exact .ret hc
  | reti => exact .returnFromInterrupt hc
  | jpIf | jrIf => exact .branchIf h fun _ hu => hu
  | callIf cc nn => exact .branchIf h fun _ hu => .call hu nn
  | retIf => exact .branchIf h fun _ hu => .ret hu
  | stop n => exact .stop hc n
  | halt => exact .halt hc
  | di => exact .disableInterrupts hc
  | ei => exact .enableInterrupts hc
  | prefixCb => exact .fetch8 h fun op _ hu => .cbOperate hu op

theorem Lawful.exec (i : Instr) : Lawful cfg (Machine.exec i s) := exec_eq_run i s ▸ .run h _ _ _ _

theorem Lawful.instructionStep : Lawful cfg (Machine.instructionStep Machine.exec s) :=
  .fetchInstr h fun i _ hu => (Lawful.exec hu i).andThen fun v hv => (settleEi_cfg v _).trans hv

theorem Lawful.engineStep : Lawful cfg (Machine.engineStep Machine.exec s) := by
  have hw : (wake s).cfg = cfg := (wake_cfg s).trans h
  unfold Machine.engineStep
  split
  · exact .takeInterrupt hw _
  · split
    · exact hw
    · exact .instructionStep hw

/-- The timers and the environment stop for nothing. -/
theorem Lawful.step : Lawful cfg (Machine.step s) := by
  rw [step_eq]
  refine (Lawful.engineStep h).andThen fun u hu => ?_
  exact ((envTurn_cfg _).trans (advanceTimers_cfg u _)).trans hu

end

/-- Settles O58: every instruction and every step is lawful, and under parameters that refuse nothing no fault is allowed. -/
theorem machineStopsOnlyUnderRefusingParameters : Obligations.MachineStopsOnlyUnderRefusingParameters := by
  unfold Obligations.MachineStopsOnlyUnderRefusingParameters
  refine ⟨fun s hbus hstop => ?_, fun s => ?_⟩
  · exact ⟨fun i => (Lawful.exec rfl i).exists_next hbus hstop, (Lawful.step rfl).exists_next hbus hstop⟩
  · exact ⟨fun r => (Lawful.step rfl).fault_cases, (Lawful.step rfl).ne_refused⟩

end Sys2Proof.Machine
end

section
/-! The reset state and the written-out words: the two sanity checks, as instances of the general facts about power-on and
about decoding an encoding. -/

namespace Sys2Proof.Machine

/-- The image of vector V-RST-1 (log 5): 32 KiB, every byte 0. -/
def blankImage : Image := { bytes := [], length := 0x8000 }

/-- Type, ROM-size and RAM-size bytes are all 0, and 32 KiB is the length ROM size 0 declares (R95 to R97). -/
theorem loadCartridge_blankImage : loadCartridge blankImage = .ok Cartridge.blank := rfl

theorem powerOn_blankImage : powerOn Config.default blankImage [] [] [] = .ok State.reset := by
  simp only [powerOn, loadCartridge_blankImage]
  rfl

/-- Settles O2: the arrays list nothing, so what power-on asks of its inputs to meet the invariant holds of them. -/
theorem resetIsThePowerOnStateAndMeetsTheInvariant : Obligations.ResetIsThePowerOnStateAndMeetsTheInvariant := by
  unfold Obligations.ResetIsThePowerOnStateAndMeetsTheInvariant
  exact ⟨powerOn_blankImage, powerOnMeetsTheInvariant _ _ _ _ _ _ powerOn_blankImage rfl rfl rfl rfl rfl rfl⟩

/-- The bytes of a whole instruction's encoding, with nothing after them, decode to it. -/
theorem decode_eq_of_encode_eq {i : Instr} {bytes : List Byte} (hi : i.wellFormed = true) (henc : encode i = bytes) :
    decode bytes = .ok (i, []) := by
  simpa [henc] using decode_encode_append hi []

/-- Settles O5: each written-out word is the encoding of its instruction. -/
theorem knownWordsDecode : Obligations.KnownWordsDecode := by
  unfold Obligations.KnownWordsDecode
  and_intros <;> exact decode_eq_of_encode_eq rfl rfl

end Sys2Proof.Machine
end
